-- ==== Sys2Proof/Word.lean ====
section
/-! DEFINITION. The two word types of the core (00_scope.md R8): the byte and the 16-bit word. -/

namespace Sys2Proof

/-- `u8`, an unsigned 8-bit value (00_scope.md R8). -/
abbrev Byte := BitVec 8

/-- `u16`, an unsigned 16-bit value: addresses and the program counter (00_scope.md R8). -/
abbrev Word := BitVec 16

end Sys2Proof
end

