-- ==== Sys2Proof/Config.lean ====
section
/-! DEFINITION. What one core instance fixes: the configuration record of 00_scope.md R6, and the
vocabulary of the dispatch table's descriptors (mnemonics, addressing modes, opcode groups, operand classes). -/

namespace Sys2Proof

/-- What BRK does (00_scope.md R6, 47_flags_brk.md R260). -/
inductive BrkMode where
  | interrupt   -- the software interrupt of R261, the default
  | marker      -- the no-effect marker of R262
deriving DecidableEq, Repr

/-- The configuration parameters of 00_scope.md R6, fixed for the lifetime of a core instance (R7).
DESIGN CHOICE (log entry 1): the record is carried in `Machine.State.cfg`, which no step writes. -/
structure Config where
  gShift    : Bool      -- G_SHIFT: ASL LSR ROL ROR are present
  gIncdec   : Bool      -- G_INCDEC: INC DEC INX INY DEX DEY are present
  gNop      : Bool      -- G_NOP: NOP is present
  gIdx      : Bool      -- G_IDX: the indexed and indexed-indirect modes are present
  brkMode   : BrkMode   -- BRK_MODE
  plaSetsNZ : Bool      -- PLA_SETS_NZ: PLA writes N and Z
  loadBase  : Word      -- LOAD_BASE: the host's default load address
deriving DecidableEq, Repr

/-- The default configuration `M6502-CORE+SHIFT`: every parameter at the default 00_scope.md R6 gives. -/
def Config.default : Config :=
  { gShift := true, gIncdec := false, gNop := false, gIdx := false,
    brkMode := .interrupt, plaSetsNZ := false, loadBase := 0x0600#16 }

/-- The full configuration of 30_encoding.md R101 (all groups enabled), otherwise the default. -/
def Config.full : Config :=
  { Config.default with gIncdec := true, gNop := true, gIdx := true }

/-- The opcode groups of 30_encoding.md R95 to R100. -/
inductive Group where
  | core | shift | incdec | nop | idx | idxShift | idxIncdec
deriving DecidableEq, Repr

/-- The addressing modes of 30_encoding.md R91. -/
inductive Mode where
  | implied | accumulator | immediate | zeroPage | relative | absolute | indirect
  | zeroPageX | zeroPageY | absoluteX | absoluteY | indexedIndirectX | indirectIndexedY
deriving DecidableEq, Repr

/-- The 56 mnemonics of the opcode map (30_encoding.md R95). -/
inductive Mnemonic where
  | lda | ldx | ldy | sta | stx | sty
  | tax | tay | tsx | txa | txs | tya
  | and | ora | eor | bit
  | cmp | cpx | cpy | adc | sbc
  | bpl | bmi | bvc | bvs | bcc | bcs | bne | beq
  | jmp | jsr | rts | rti
  | pha | pla | php | plp
  | clc | sec | cli | sei | clv | cld | sed
  | brk
  | asl | lsr | rol | ror
  | inc | dec | inx | iny | dex | dey
  | nop
deriving DecidableEq, Repr

/-- The operand classes of 40_sequencer_addressing.md R126. -/
inductive OperandClass where
  | read      -- the resolver's operand is read
  | write     -- the effective address is written, not read (R146)
  | modify    -- read-modify-write (48_optional_groups.md R274); on the accumulator no memory is accessed
  | noMemory  -- no memory operand
deriving DecidableEq, Repr

end Sys2Proof
end

