-- ==== Sys2Proof/Syntax.lean ====
section
/-! DEFINITION. The instructions: one constructor per row of the opcode table (30_encoding.md R95 to R100), named by
mnemonic and addressing mode. An operand byte is carried as it is encoded; the two operand bytes of a 3-byte
instruction are carried as the word `{byte2, byte1}` (R92). -/

namespace Sys2Proof

/-- The 151 instructions of the opcode map (30_encoding.md R95). Suffixes: Imm `#`, Zp `zp`, Abs `abs`, ZpX `zp,X`,
ZpY `zp,Y`, AbsX `abs,X`, AbsY `abs,Y`, IndX `(zp,X)`, IndY `(zp),Y`, Acc `A`, Ind `(ind)`. -/
inductive Instr where
  -- Load and store (41_load_store.md)
  | ldaImm (imm : Byte)
  | ldaZp (zp : Byte)
  | ldaAbs (addr : Word)
  | ldaIndX (zp : Byte)
  | ldaIndY (zp : Byte)
  | ldaZpX (zp : Byte)
  | ldaAbsY (base : Word)
  | ldaAbsX (base : Word)
  | ldxImm (imm : Byte)
  | ldxZp (zp : Byte)
  | ldxAbs (addr : Word)
  | ldxZpY (zp : Byte)
  | ldxAbsY (base : Word)
  | ldyImm (imm : Byte)
  | ldyZp (zp : Byte)
  | ldyAbs (addr : Word)
  | ldyZpX (zp : Byte)
  | ldyAbsX (base : Word)
  | staZp (zp : Byte)
  | staAbs (addr : Word)
  | staIndX (zp : Byte)
  | staIndY (zp : Byte)
  | staZpX (zp : Byte)
  | staAbsY (base : Word)
  | staAbsX (base : Word)
  | stxZp (zp : Byte)
  | stxAbs (addr : Word)
  | stxZpY (zp : Byte)
  | styZp (zp : Byte)
  | styAbs (addr : Word)
  | styZpX (zp : Byte)
  -- Transfer (42_transfer.md)
  | tax
  | tay
  | tsx
  | txa
  | txs
  | tya
  -- Logic and BIT (43_logic.md)
  | andImm (imm : Byte)
  | andZp (zp : Byte)
  | andAbs (addr : Word)
  | andIndX (zp : Byte)
  | andIndY (zp : Byte)
  | andZpX (zp : Byte)
  | andAbsY (base : Word)
  | andAbsX (base : Word)
  | oraImm (imm : Byte)
  | oraZp (zp : Byte)
  | oraAbs (addr : Word)
  | oraIndX (zp : Byte)
  | oraIndY (zp : Byte)
  | oraZpX (zp : Byte)
  | oraAbsY (base : Word)
  | oraAbsX (base : Word)
  | eorImm (imm : Byte)
  | eorZp (zp : Byte)
  | eorAbs (addr : Word)
  | eorIndX (zp : Byte)
  | eorIndY (zp : Byte)
  | eorZpX (zp : Byte)
  | eorAbsY (base : Word)
  | eorAbsX (base : Word)
  | bitZp (zp : Byte)
  | bitAbs (addr : Word)
  -- Compare and arithmetic (44_compare_arith.md)
  | cmpImm (imm : Byte)
  | cmpZp (zp : Byte)
  | cmpAbs (addr : Word)
  | cmpIndX (zp : Byte)
  | cmpIndY (zp : Byte)
  | cmpZpX (zp : Byte)
  | cmpAbsY (base : Word)
  | cmpAbsX (base : Word)
  | cpxImm (imm : Byte)
  | cpxZp (zp : Byte)
  | cpxAbs (addr : Word)
  | cpyImm (imm : Byte)
  | cpyZp (zp : Byte)
  | cpyAbs (addr : Word)
  | adcImm (imm : Byte)
  | adcZp (zp : Byte)
  | adcAbs (addr : Word)
  | adcIndX (zp : Byte)
  | adcIndY (zp : Byte)
  | adcZpX (zp : Byte)
  | adcAbsY (base : Word)
  | adcAbsX (base : Word)
  | sbcImm (imm : Byte)
  | sbcZp (zp : Byte)
  | sbcAbs (addr : Word)
  | sbcIndX (zp : Byte)
  | sbcIndY (zp : Byte)
  | sbcZpX (zp : Byte)
  | sbcAbsY (base : Word)
  | sbcAbsX (base : Word)
  -- Branches, jumps, subroutines, returns (45_control.md)
  | bpl (d : Byte)
  | bmi (d : Byte)
  | bvc (d : Byte)
  | bvs (d : Byte)
  | bcc (d : Byte)
  | bcs (d : Byte)
  | bne (d : Byte)
  | beq (d : Byte)
  | jmpAbs (target : Word)
  | jmpInd (ptr : Word)
  | jsr (target : Word)
  | rts
  | rti
  -- Stack (46_stack.md)
  | pha
  | pla
  | php
  | plp
  -- Flags and BRK (47_flags_brk.md)
  | clc
  | sec
  | cli
  | sei
  | clv
  | cld
  | sed
  | brk
  -- Group SHIFT (48_optional_groups.md)
  | aslAcc
  | aslZp (zp : Byte)
  | aslAbs (addr : Word)
  | aslZpX (zp : Byte)
  | aslAbsX (base : Word)
  | lsrAcc
  | lsrZp (zp : Byte)
  | lsrAbs (addr : Word)
  | lsrZpX (zp : Byte)
  | lsrAbsX (base : Word)
  | rolAcc
  | rolZp (zp : Byte)
  | rolAbs (addr : Word)
  | rolZpX (zp : Byte)
  | rolAbsX (base : Word)
  | rorAcc
  | rorZp (zp : Byte)
  | rorAbs (addr : Word)
  | rorZpX (zp : Byte)
  | rorAbsX (base : Word)
  -- Groups INCDEC and NOP (48_optional_groups.md)
  | incZp (zp : Byte)
  | incAbs (addr : Word)
  | incZpX (zp : Byte)
  | incAbsX (base : Word)
  | decZp (zp : Byte)
  | decAbs (addr : Word)
  | decZpX (zp : Byte)
  | decAbsX (base : Word)
  | inx
  | iny
  | dex
  | dey
  | nop
deriving DecidableEq, Repr

end Sys2Proof
end

