-- ==== Sys2Proof/Decode.lean ====
section
/-! DEFINITION. Encoding and decoding (30_encoding.md): the byte and word helpers, the dispatch table of R94 to R100,
the decoder over a list of bytes, and the encoder. -/

namespace Sys2Proof

/-! ### Bytes and words (00_scope.md R8, R9) -/

/-- `lo(w)`, bits 7:0. -/
def loByte (w : Word) : Byte := w.setWidth 8

/-- `hi(w)`, bits 15:8. -/
def hiByte (w : Word) : Byte := (w >>> 8).setWidth 8

/-- `{h, l}`: `h` in bits 15:8 and `l` in bits 7:0. -/
def wordOf (h l : Byte) : Word := h ++ l

/-- `zext_16(v)`. -/
def zext16 (v : Byte) : Word := v.setWidth 16

/-- `sext_16(v)`, used for branch displacements only. -/
def sext16 (v : Byte) : Word := v.signExtend 16

/-! ### Modes and groups -/

/-- The operand byte count of each mode (R91). -/
def Mode.operandBytes : Mode → Nat
  | .implied | .accumulator => 0
  | .immediate | .zeroPage | .relative | .zeroPageX | .zeroPageY | .indexedIndirectX | .indirectIndexedY => 1
  | .absolute | .indirect | .absoluteX | .absoluteY => 2

/-- Whether the configuration has a group's opcodes (R95 to R100). -/
def Config.enables (cfg : Config) : Group → Bool
  | .core => true
  | .shift => cfg.gShift
  | .incdec => cfg.gIncdec
  | .nop => cfg.gNop
  | .idx => cfg.gIdx
  | .idxShift => cfg.gIdx && cfg.gShift
  | .idxIncdec => cfg.gIdx && cfg.gIncdec

/-- The configuration with a group's parameters set and every other parameter unchanged (used to place an instruction
for the next fetch, log entry 6). -/
def Config.enabling (cfg : Config) : Group → Config
  | .core => cfg
  | .shift => { cfg with gShift := true }
  | .incdec => { cfg with gIncdec := true }
  | .nop => { cfg with gNop := true }
  | .idx => { cfg with gIdx := true }
  | .idxShift => { cfg with gIdx := true, gShift := true }
  | .idxIncdec => { cfg with gIdx := true, gIncdec := true }

/-! ### What a constructor of Instr stands for -/

/-- The mnemonic of an instruction's row (R95). -/
def Instr.mnemonic : Instr → Mnemonic
  | .ldaImm _ | .ldaZp _ | .ldaAbs _ | .ldaIndX _ | .ldaIndY _ | .ldaZpX _ | .ldaAbsY _ | .ldaAbsX _ => .lda
  | .ldxImm _ | .ldxZp _ | .ldxAbs _ | .ldxZpY _ | .ldxAbsY _ => .ldx
  | .ldyImm _ | .ldyZp _ | .ldyAbs _ | .ldyZpX _ | .ldyAbsX _ => .ldy
  | .staZp _ | .staAbs _ | .staIndX _ | .staIndY _ | .staZpX _ | .staAbsY _ | .staAbsX _ => .sta
  | .stxZp _ | .stxAbs _ | .stxZpY _ => .stx
  | .styZp _ | .styAbs _ | .styZpX _ => .sty
  | .tax => .tax
  | .tay => .tay
  | .tsx => .tsx
  | .txa => .txa
  | .txs => .txs
  | .tya => .tya
  | .andImm _ | .andZp _ | .andAbs _ | .andIndX _ | .andIndY _ | .andZpX _ | .andAbsY _ | .andAbsX _ => .and
  | .oraImm _ | .oraZp _ | .oraAbs _ | .oraIndX _ | .oraIndY _ | .oraZpX _ | .oraAbsY _ | .oraAbsX _ => .ora
  | .eorImm _ | .eorZp _ | .eorAbs _ | .eorIndX _ | .eorIndY _ | .eorZpX _ | .eorAbsY _ | .eorAbsX _ => .eor
  | .bitZp _ | .bitAbs _ => .bit
  | .cmpImm _ | .cmpZp _ | .cmpAbs _ | .cmpIndX _ | .cmpIndY _ | .cmpZpX _ | .cmpAbsY _ | .cmpAbsX _ => .cmp
  | .cpxImm _ | .cpxZp _ | .cpxAbs _ => .cpx
  | .cpyImm _ | .cpyZp _ | .cpyAbs _ => .cpy
  | .adcImm _ | .adcZp _ | .adcAbs _ | .adcIndX _ | .adcIndY _ | .adcZpX _ | .adcAbsY _ | .adcAbsX _ => .adc
  | .sbcImm _ | .sbcZp _ | .sbcAbs _ | .sbcIndX _ | .sbcIndY _ | .sbcZpX _ | .sbcAbsY _ | .sbcAbsX _ => .sbc
  | .bpl _ => .bpl
  | .bmi _ => .bmi
  | .bvc _ => .bvc
  | .bvs _ => .bvs
  | .bcc _ => .bcc
  | .bcs _ => .bcs
  | .bne _ => .bne
  | .beq _ => .beq
  | .jmpAbs _ | .jmpInd _ => .jmp
  | .jsr _ => .jsr
  | .rts => .rts
  | .rti => .rti
  | .pha => .pha
  | .pla => .pla
  | .php => .php
  | .plp => .plp
  | .clc => .clc
  | .sec => .sec
  | .cli => .cli
  | .sei => .sei
  | .clv => .clv
  | .cld => .cld
  | .sed => .sed
  | .brk => .brk
  | .aslAcc | .aslZp _ | .aslAbs _ | .aslZpX _ | .aslAbsX _ => .asl
  | .lsrAcc | .lsrZp _ | .lsrAbs _ | .lsrZpX _ | .lsrAbsX _ => .lsr
  | .rolAcc | .rolZp _ | .rolAbs _ | .rolZpX _ | .rolAbsX _ => .rol
  | .rorAcc | .rorZp _ | .rorAbs _ | .rorZpX _ | .rorAbsX _ => .ror
  | .incZp _ | .incAbs _ | .incZpX _ | .incAbsX _ => .inc
  | .decZp _ | .decAbs _ | .decZpX _ | .decAbsX _ => .dec
  | .inx => .inx
  | .iny => .iny
  | .dex => .dex
  | .dey => .dey
  | .nop => .nop

/-- The addressing mode of an instruction's row (R95). -/
def Instr.mode : Instr → Mode
  | .tax | .tay | .tsx | .txa | .txs | .tya | .rts | .rti | .pha | .pla | .php | .plp | .clc | .sec | .cli
  | .sei | .clv | .cld | .sed | .brk | .inx | .iny | .dex | .dey | .nop => .implied
  | .aslAcc | .rolAcc | .lsrAcc | .rorAcc => .accumulator
  | .ldaImm _ | .ldxImm _ | .ldyImm _ | .andImm _ | .oraImm _ | .eorImm _ | .cmpImm _ | .cpxImm _ | .cpyImm _
  | .adcImm _ | .sbcImm _ => .immediate
  | .ldaZp _ | .ldxZp _ | .ldyZp _ | .staZp _ | .stxZp _ | .styZp _ | .andZp _ | .oraZp _ | .eorZp _ | .bitZp _
  | .cmpZp _ | .cpxZp _ | .cpyZp _ | .adcZp _ | .sbcZp _ | .aslZp _ | .rolZp _ | .lsrZp _ | .rorZp _ | .incZp _
  | .decZp _ => .zeroPage
  | .bpl _ | .bmi _ | .bvc _ | .bvs _ | .bcc _ | .bcs _ | .bne _ | .beq _ => .relative
  | .ldaAbs _ | .ldxAbs _ | .ldyAbs _ | .staAbs _ | .stxAbs _ | .styAbs _ | .andAbs _ | .oraAbs _ | .eorAbs _
  | .bitAbs _ | .cmpAbs _ | .cpxAbs _ | .cpyAbs _ | .adcAbs _ | .sbcAbs _ | .jmpAbs _ | .jsr _ | .aslAbs _
  | .rolAbs _ | .lsrAbs _ | .rorAbs _ | .incAbs _ | .decAbs _ => .absolute
  | .jmpInd _ => .indirect
  | .oraZpX _ | .andZpX _ | .eorZpX _ | .adcZpX _ | .staZpX _ | .ldaZpX _ | .cmpZpX _ | .sbcZpX _ | .ldyZpX _
  | .styZpX _ | .aslZpX _ | .rolZpX _ | .lsrZpX _ | .rorZpX _ | .incZpX _ | .decZpX _ => .zeroPageX
  | .ldxZpY _ | .stxZpY _ => .zeroPageY
  | .oraAbsX _ | .andAbsX _ | .eorAbsX _ | .adcAbsX _ | .staAbsX _ | .ldaAbsX _ | .cmpAbsX _ | .sbcAbsX _
  | .ldyAbsX _ | .aslAbsX _ | .rolAbsX _ | .lsrAbsX _ | .rorAbsX _ | .incAbsX _ | .decAbsX _ => .absoluteX
  | .oraAbsY _ | .andAbsY _ | .eorAbsY _ | .adcAbsY _ | .staAbsY _ | .ldaAbsY _ | .cmpAbsY _ | .sbcAbsY _
  | .ldxAbsY _ => .absoluteY
  | .oraIndX _ | .andIndX _ | .eorIndX _ | .adcIndX _ | .staIndX _ | .ldaIndX _ | .cmpIndX _ | .sbcIndX _ => .indexedIndirectX
  | .oraIndY _ | .andIndY _ | .eorIndY _ | .adcIndY _ | .staIndY _ | .ldaIndY _ | .cmpIndY _ | .sbcIndY _ => .indirectIndexedY

/-- The opcode group of an instruction's row (R95 to R100). -/
def Instr.group : Instr → Group
  | .ldaImm _ | .ldaZp _ | .ldaAbs _ | .ldxImm _ | .ldxZp _ | .ldxAbs _ | .ldyImm _ | .ldyZp _ | .ldyAbs _
  | .staZp _ | .staAbs _ | .stxZp _ | .stxAbs _ | .styZp _ | .styAbs _ | .tax | .tay | .tsx | .txa | .txs
  | .tya | .andImm _ | .andZp _ | .andAbs _ | .oraImm _ | .oraZp _ | .oraAbs _ | .eorImm _ | .eorZp _
  | .eorAbs _ | .bitZp _ | .bitAbs _ | .cmpImm _ | .cmpZp _ | .cmpAbs _ | .cpxImm _ | .cpxZp _ | .cpxAbs _
  | .cpyImm _ | .cpyZp _ | .cpyAbs _ | .adcImm _ | .adcZp _ | .adcAbs _ | .sbcImm _ | .sbcZp _ | .sbcAbs _
  | .bpl _ | .bmi _ | .bvc _ | .bvs _ | .bcc _ | .bcs _ | .bne _ | .beq _ | .jmpAbs _ | .jmpInd _ | .jsr _
  | .rts | .rti | .pha | .pla | .php | .plp | .clc | .sec | .cli | .sei | .clv | .cld | .sed | .brk => .core
  | .aslAcc | .aslZp _ | .aslAbs _ | .rolAcc | .rolZp _ | .rolAbs _ | .lsrAcc | .lsrZp _ | .lsrAbs _ | .rorAcc
  | .rorZp _ | .rorAbs _ => .shift
  | .incZp _ | .incAbs _ | .decZp _ | .decAbs _ | .inx | .iny | .dex | .dey => .incdec
  | .nop => .nop
  | .oraIndX _ | .oraIndY _ | .oraZpX _ | .oraAbsY _ | .oraAbsX _ | .andIndX _ | .andIndY _ | .andZpX _
  | .andAbsY _ | .andAbsX _ | .eorIndX _ | .eorIndY _ | .eorZpX _ | .eorAbsY _ | .eorAbsX _ | .adcIndX _
  | .adcIndY _ | .adcZpX _ | .adcAbsY _ | .adcAbsX _ | .staIndX _ | .staIndY _ | .staZpX _ | .staAbsY _
  | .staAbsX _ | .ldaIndX _ | .ldaIndY _ | .ldaZpX _ | .ldaAbsY _ | .ldaAbsX _ | .cmpIndX _ | .cmpIndY _
  | .cmpZpX _ | .cmpAbsY _ | .cmpAbsX _ | .sbcIndX _ | .sbcIndY _ | .sbcZpX _ | .sbcAbsY _ | .sbcAbsX _
  | .ldxZpY _ | .ldxAbsY _ | .ldyZpX _ | .ldyAbsX _ | .stxZpY _ | .styZpX _ => .idx
  | .aslZpX _ | .aslAbsX _ | .rolZpX _ | .rolAbsX _ | .lsrZpX _ | .lsrAbsX _ | .rorZpX _ | .rorAbsX _ => .idxShift
  | .incZpX _ | .incAbsX _ | .decZpX _ | .decAbsX _ => .idxIncdec

/-- The opcode byte of an instruction (R95). -/
def Instr.opcode : Instr → Byte
  -- Load and store (41_load_store.md)
  | .ldaImm _ => 0xA9#8
  | .ldaZp _ => 0xA5#8
  | .ldaAbs _ => 0xAD#8
  | .ldaIndX _ => 0xA1#8
  | .ldaIndY _ => 0xB1#8
  | .ldaZpX _ => 0xB5#8
  | .ldaAbsY _ => 0xB9#8
  | .ldaAbsX _ => 0xBD#8
  | .ldxImm _ => 0xA2#8
  | .ldxZp _ => 0xA6#8
  | .ldxAbs _ => 0xAE#8
  | .ldxZpY _ => 0xB6#8
  | .ldxAbsY _ => 0xBE#8
  | .ldyImm _ => 0xA0#8
  | .ldyZp _ => 0xA4#8
  | .ldyAbs _ => 0xAC#8
  | .ldyZpX _ => 0xB4#8
  | .ldyAbsX _ => 0xBC#8
  | .staZp _ => 0x85#8
  | .staAbs _ => 0x8D#8
  | .staIndX _ => 0x81#8
  | .staIndY _ => 0x91#8
  | .staZpX _ => 0x95#8
  | .staAbsY _ => 0x99#8
  | .staAbsX _ => 0x9D#8
  | .stxZp _ => 0x86#8
  | .stxAbs _ => 0x8E#8
  | .stxZpY _ => 0x96#8
  | .styZp _ => 0x84#8
  | .styAbs _ => 0x8C#8
  | .styZpX _ => 0x94#8
  -- Transfer (42_transfer.md)
  | .tax => 0xAA#8
  | .tay => 0xA8#8
  | .tsx => 0xBA#8
  | .txa => 0x8A#8
  | .txs => 0x9A#8
  | .tya => 0x98#8
  -- Logic and BIT (43_logic.md)
  | .andImm _ => 0x29#8
  | .andZp _ => 0x25#8
  | .andAbs _ => 0x2D#8
  | .andIndX _ => 0x21#8
  | .andIndY _ => 0x31#8
  | .andZpX _ => 0x35#8
  | .andAbsY _ => 0x39#8
  | .andAbsX _ => 0x3D#8
  | .oraImm _ => 0x09#8
  | .oraZp _ => 0x05#8
  | .oraAbs _ => 0x0D#8
  | .oraIndX _ => 0x01#8
  | .oraIndY _ => 0x11#8
  | .oraZpX _ => 0x15#8
  | .oraAbsY _ => 0x19#8
  | .oraAbsX _ => 0x1D#8
  | .eorImm _ => 0x49#8
  | .eorZp _ => 0x45#8
  | .eorAbs _ => 0x4D#8
  | .eorIndX _ => 0x41#8
  | .eorIndY _ => 0x51#8
  | .eorZpX _ => 0x55#8
  | .eorAbsY _ => 0x59#8
  | .eorAbsX _ => 0x5D#8
  | .bitZp _ => 0x24#8
  | .bitAbs _ => 0x2C#8
  -- Compare and arithmetic (44_compare_arith.md)
  | .cmpImm _ => 0xC9#8
  | .cmpZp _ => 0xC5#8
  | .cmpAbs _ => 0xCD#8
  | .cmpIndX _ => 0xC1#8
  | .cmpIndY _ => 0xD1#8
  | .cmpZpX _ => 0xD5#8
  | .cmpAbsY _ => 0xD9#8
  | .cmpAbsX _ => 0xDD#8
  | .cpxImm _ => 0xE0#8
  | .cpxZp _ => 0xE4#8
  | .cpxAbs _ => 0xEC#8
  | .cpyImm _ => 0xC0#8
  | .cpyZp _ => 0xC4#8
  | .cpyAbs _ => 0xCC#8
  | .adcImm _ => 0x69#8
  | .adcZp _ => 0x65#8
  | .adcAbs _ => 0x6D#8
  | .adcIndX _ => 0x61#8
  | .adcIndY _ => 0x71#8
  | .adcZpX _ => 0x75#8
  | .adcAbsY _ => 0x79#8
  | .adcAbsX _ => 0x7D#8
  | .sbcImm _ => 0xE9#8
  | .sbcZp _ => 0xE5#8
  | .sbcAbs _ => 0xED#8
  | .sbcIndX _ => 0xE1#8
  | .sbcIndY _ => 0xF1#8
  | .sbcZpX _ => 0xF5#8
  | .sbcAbsY _ => 0xF9#8
  | .sbcAbsX _ => 0xFD#8
  -- Branches, jumps, subroutines, returns (45_control.md)
  | .bpl _ => 0x10#8
  | .bmi _ => 0x30#8
  | .bvc _ => 0x50#8
  | .bvs _ => 0x70#8
  | .bcc _ => 0x90#8
  | .bcs _ => 0xB0#8
  | .bne _ => 0xD0#8
  | .beq _ => 0xF0#8
  | .jmpAbs _ => 0x4C#8
  | .jmpInd _ => 0x6C#8
  | .jsr _ => 0x20#8
  | .rts => 0x60#8
  | .rti => 0x40#8
  -- Stack (46_stack.md)
  | .pha => 0x48#8
  | .pla => 0x68#8
  | .php => 0x08#8
  | .plp => 0x28#8
  -- Flags and BRK (47_flags_brk.md)
  | .clc => 0x18#8
  | .sec => 0x38#8
  | .cli => 0x58#8
  | .sei => 0x78#8
  | .clv => 0xB8#8
  | .cld => 0xD8#8
  | .sed => 0xF8#8
  | .brk => 0x00#8
  -- Group SHIFT (48_optional_groups.md)
  | .aslAcc => 0x0A#8
  | .aslZp _ => 0x06#8
  | .aslAbs _ => 0x0E#8
  | .aslZpX _ => 0x16#8
  | .aslAbsX _ => 0x1E#8
  | .lsrAcc => 0x4A#8
  | .lsrZp _ => 0x46#8
  | .lsrAbs _ => 0x4E#8
  | .lsrZpX _ => 0x56#8
  | .lsrAbsX _ => 0x5E#8
  | .rolAcc => 0x2A#8
  | .rolZp _ => 0x26#8
  | .rolAbs _ => 0x2E#8
  | .rolZpX _ => 0x36#8
  | .rolAbsX _ => 0x3E#8
  | .rorAcc => 0x6A#8
  | .rorZp _ => 0x66#8
  | .rorAbs _ => 0x6E#8
  | .rorZpX _ => 0x76#8
  | .rorAbsX _ => 0x7E#8
  -- Groups INCDEC and NOP (48_optional_groups.md)
  | .incZp _ => 0xE6#8
  | .incAbs _ => 0xEE#8
  | .incZpX _ => 0xF6#8
  | .incAbsX _ => 0xFE#8
  | .decZp _ => 0xC6#8
  | .decAbs _ => 0xCE#8
  | .decZpX _ => 0xD6#8
  | .decAbsX _ => 0xDE#8
  | .inx => 0xE8#8
  | .iny => 0xC8#8
  | .dex => 0xCA#8
  | .dey => 0x88#8
  | .nop => 0xEA#8

/-- The operand bytes of an instruction, in address order (R90 to R92). -/
def Instr.operandBytes : Instr → List Byte
  | .tax | .tay | .tsx | .txa | .txs | .tya | .rts | .rti | .pha | .pla | .php | .plp | .clc | .sec | .cli
  | .sei | .clv | .cld | .sed | .brk | .aslAcc | .rolAcc | .lsrAcc | .rorAcc | .inx | .iny | .dex | .dey | .nop => []
  | .ldaImm b | .ldaZp b | .ldxImm b | .ldxZp b | .ldyImm b | .ldyZp b | .staZp b | .stxZp b | .styZp b
  | .andImm b | .andZp b | .oraImm b | .oraZp b | .eorImm b | .eorZp b | .bitZp b | .cmpImm b | .cmpZp b
  | .cpxImm b | .cpxZp b | .cpyImm b | .cpyZp b | .adcImm b | .adcZp b | .sbcImm b | .sbcZp b | .bpl b | .bmi b
  | .bvc b | .bvs b | .bcc b | .bcs b | .bne b | .beq b | .aslZp b | .rolZp b | .lsrZp b | .rorZp b | .incZp b
  | .decZp b | .oraIndX b | .oraIndY b | .oraZpX b | .andIndX b | .andIndY b | .andZpX b | .eorIndX b
  | .eorIndY b | .eorZpX b | .adcIndX b | .adcIndY b | .adcZpX b | .staIndX b | .staIndY b | .staZpX b
  | .ldaIndX b | .ldaIndY b | .ldaZpX b | .cmpIndX b | .cmpIndY b | .cmpZpX b | .sbcIndX b | .sbcIndY b
  | .sbcZpX b | .ldxZpY b | .ldyZpX b | .stxZpY b | .styZpX b | .aslZpX b | .rolZpX b | .lsrZpX b | .rorZpX b
  | .incZpX b | .decZpX b => [b]
  | .ldaAbs w | .ldxAbs w | .ldyAbs w | .staAbs w | .stxAbs w | .styAbs w | .andAbs w | .oraAbs w | .eorAbs w
  | .bitAbs w | .cmpAbs w | .cpxAbs w | .cpyAbs w | .adcAbs w | .sbcAbs w | .jmpAbs w | .jmpInd w | .jsr w
  | .aslAbs w | .rolAbs w | .lsrAbs w | .rorAbs w | .incAbs w | .decAbs w | .oraAbsY w | .oraAbsX w
  | .andAbsY w | .andAbsX w | .eorAbsY w | .eorAbsX w | .adcAbsY w | .adcAbsX w | .staAbsY w | .staAbsX w
  | .ldaAbsY w | .ldaAbsX w | .cmpAbsY w | .cmpAbsX w | .sbcAbsY w | .sbcAbsX w | .ldxAbsY w | .ldyAbsX w
  | .aslAbsX w | .rolAbsX w | .lsrAbsX w | .rorAbsX w | .incAbsX w | .decAbsX w => [loByte w, hiByte w]

/-- The first operand byte `b1` of an instruction (R120), 0 where it has none. -/
def Instr.byte1 (i : Instr) : Byte := i.operandBytes.getD 0 0x00#8

/-- The second operand byte `b2` of an instruction (R120), 0 where it has none. -/
def Instr.byte2 (i : Instr) : Byte := i.operandBytes.getD 1 0x00#8

/-- The length of an instruction in bytes (R103). -/
def Instr.length (i : Instr) : Nat := 1 + i.mode.operandBytes

/-! ### The dispatch table -/

/-- One present entry of the dispatch table (R94): mnemonic, mode and group of the row, and the instruction that its
operand bytes `b1` and `b2` make (R92). -/
structure Descriptor where
  mnemonic : Mnemonic
  mode     : Mode
  group    : Group
  assemble : Byte → Byte → Instr

/-- The dispatch table with every group enabled (R94, R95): none for the 105 bytes R101 lists. -/
def dispatchTable (op : Byte) : Option Descriptor :=
  match op.toNat with
  | 0x00 => some ⟨.brk, .implied, .core, fun _ _ => .brk⟩
  | 0x01 => some ⟨.ora, .indexedIndirectX, .idx, fun b1 _ => .oraIndX b1⟩
  | 0x05 => some ⟨.ora, .zeroPage, .core, fun b1 _ => .oraZp b1⟩
  | 0x06 => some ⟨.asl, .zeroPage, .shift, fun b1 _ => .aslZp b1⟩
  | 0x08 => some ⟨.php, .implied, .core, fun _ _ => .php⟩
  | 0x09 => some ⟨.ora, .immediate, .core, fun b1 _ => .oraImm b1⟩
  | 0x0A => some ⟨.asl, .accumulator, .shift, fun _ _ => .aslAcc⟩
  | 0x0D => some ⟨.ora, .absolute, .core, fun b1 b2 => .oraAbs (wordOf b2 b1)⟩
  | 0x0E => some ⟨.asl, .absolute, .shift, fun b1 b2 => .aslAbs (wordOf b2 b1)⟩
  | 0x10 => some ⟨.bpl, .relative, .core, fun b1 _ => .bpl b1⟩
  | 0x11 => some ⟨.ora, .indirectIndexedY, .idx, fun b1 _ => .oraIndY b1⟩
  | 0x15 => some ⟨.ora, .zeroPageX, .idx, fun b1 _ => .oraZpX b1⟩
  | 0x16 => some ⟨.asl, .zeroPageX, .idxShift, fun b1 _ => .aslZpX b1⟩
  | 0x18 => some ⟨.clc, .implied, .core, fun _ _ => .clc⟩
  | 0x19 => some ⟨.ora, .absoluteY, .idx, fun b1 b2 => .oraAbsY (wordOf b2 b1)⟩
  | 0x1D => some ⟨.ora, .absoluteX, .idx, fun b1 b2 => .oraAbsX (wordOf b2 b1)⟩
  | 0x1E => some ⟨.asl, .absoluteX, .idxShift, fun b1 b2 => .aslAbsX (wordOf b2 b1)⟩
  | 0x20 => some ⟨.jsr, .absolute, .core, fun b1 b2 => .jsr (wordOf b2 b1)⟩
  | 0x21 => some ⟨.and, .indexedIndirectX, .idx, fun b1 _ => .andIndX b1⟩
  | 0x24 => some ⟨.bit, .zeroPage, .core, fun b1 _ => .bitZp b1⟩
  | 0x25 => some ⟨.and, .zeroPage, .core, fun b1 _ => .andZp b1⟩
  | 0x26 => some ⟨.rol, .zeroPage, .shift, fun b1 _ => .rolZp b1⟩
  | 0x28 => some ⟨.plp, .implied, .core, fun _ _ => .plp⟩
  | 0x29 => some ⟨.and, .immediate, .core, fun b1 _ => .andImm b1⟩
  | 0x2A => some ⟨.rol, .accumulator, .shift, fun _ _ => .rolAcc⟩
  | 0x2C => some ⟨.bit, .absolute, .core, fun b1 b2 => .bitAbs (wordOf b2 b1)⟩
  | 0x2D => some ⟨.and, .absolute, .core, fun b1 b2 => .andAbs (wordOf b2 b1)⟩
  | 0x2E => some ⟨.rol, .absolute, .shift, fun b1 b2 => .rolAbs (wordOf b2 b1)⟩
  | 0x30 => some ⟨.bmi, .relative, .core, fun b1 _ => .bmi b1⟩
  | 0x31 => some ⟨.and, .indirectIndexedY, .idx, fun b1 _ => .andIndY b1⟩
  | 0x35 => some ⟨.and, .zeroPageX, .idx, fun b1 _ => .andZpX b1⟩
  | 0x36 => some ⟨.rol, .zeroPageX, .idxShift, fun b1 _ => .rolZpX b1⟩
  | 0x38 => some ⟨.sec, .implied, .core, fun _ _ => .sec⟩
  | 0x39 => some ⟨.and, .absoluteY, .idx, fun b1 b2 => .andAbsY (wordOf b2 b1)⟩
  | 0x3D => some ⟨.and, .absoluteX, .idx, fun b1 b2 => .andAbsX (wordOf b2 b1)⟩
  | 0x3E => some ⟨.rol, .absoluteX, .idxShift, fun b1 b2 => .rolAbsX (wordOf b2 b1)⟩
  | 0x40 => some ⟨.rti, .implied, .core, fun _ _ => .rti⟩
  | 0x41 => some ⟨.eor, .indexedIndirectX, .idx, fun b1 _ => .eorIndX b1⟩
  | 0x45 => some ⟨.eor, .zeroPage, .core, fun b1 _ => .eorZp b1⟩
  | 0x46 => some ⟨.lsr, .zeroPage, .shift, fun b1 _ => .lsrZp b1⟩
  | 0x48 => some ⟨.pha, .implied, .core, fun _ _ => .pha⟩
  | 0x49 => some ⟨.eor, .immediate, .core, fun b1 _ => .eorImm b1⟩
  | 0x4A => some ⟨.lsr, .accumulator, .shift, fun _ _ => .lsrAcc⟩
  | 0x4C => some ⟨.jmp, .absolute, .core, fun b1 b2 => .jmpAbs (wordOf b2 b1)⟩
  | 0x4D => some ⟨.eor, .absolute, .core, fun b1 b2 => .eorAbs (wordOf b2 b1)⟩
  | 0x4E => some ⟨.lsr, .absolute, .shift, fun b1 b2 => .lsrAbs (wordOf b2 b1)⟩
  | 0x50 => some ⟨.bvc, .relative, .core, fun b1 _ => .bvc b1⟩
  | 0x51 => some ⟨.eor, .indirectIndexedY, .idx, fun b1 _ => .eorIndY b1⟩
  | 0x55 => some ⟨.eor, .zeroPageX, .idx, fun b1 _ => .eorZpX b1⟩
  | 0x56 => some ⟨.lsr, .zeroPageX, .idxShift, fun b1 _ => .lsrZpX b1⟩
  | 0x58 => some ⟨.cli, .implied, .core, fun _ _ => .cli⟩
  | 0x59 => some ⟨.eor, .absoluteY, .idx, fun b1 b2 => .eorAbsY (wordOf b2 b1)⟩
  | 0x5D => some ⟨.eor, .absoluteX, .idx, fun b1 b2 => .eorAbsX (wordOf b2 b1)⟩
  | 0x5E => some ⟨.lsr, .absoluteX, .idxShift, fun b1 b2 => .lsrAbsX (wordOf b2 b1)⟩
  | 0x60 => some ⟨.rts, .implied, .core, fun _ _ => .rts⟩
  | 0x61 => some ⟨.adc, .indexedIndirectX, .idx, fun b1 _ => .adcIndX b1⟩
  | 0x65 => some ⟨.adc, .zeroPage, .core, fun b1 _ => .adcZp b1⟩
  | 0x66 => some ⟨.ror, .zeroPage, .shift, fun b1 _ => .rorZp b1⟩
  | 0x68 => some ⟨.pla, .implied, .core, fun _ _ => .pla⟩
  | 0x69 => some ⟨.adc, .immediate, .core, fun b1 _ => .adcImm b1⟩
  | 0x6A => some ⟨.ror, .accumulator, .shift, fun _ _ => .rorAcc⟩
  | 0x6C => some ⟨.jmp, .indirect, .core, fun b1 b2 => .jmpInd (wordOf b2 b1)⟩
  | 0x6D => some ⟨.adc, .absolute, .core, fun b1 b2 => .adcAbs (wordOf b2 b1)⟩
  | 0x6E => some ⟨.ror, .absolute, .shift, fun b1 b2 => .rorAbs (wordOf b2 b1)⟩
  | 0x70 => some ⟨.bvs, .relative, .core, fun b1 _ => .bvs b1⟩
  | 0x71 => some ⟨.adc, .indirectIndexedY, .idx, fun b1 _ => .adcIndY b1⟩
  | 0x75 => some ⟨.adc, .zeroPageX, .idx, fun b1 _ => .adcZpX b1⟩
  | 0x76 => some ⟨.ror, .zeroPageX, .idxShift, fun b1 _ => .rorZpX b1⟩
  | 0x78 => some ⟨.sei, .implied, .core, fun _ _ => .sei⟩
  | 0x79 => some ⟨.adc, .absoluteY, .idx, fun b1 b2 => .adcAbsY (wordOf b2 b1)⟩
  | 0x7D => some ⟨.adc, .absoluteX, .idx, fun b1 b2 => .adcAbsX (wordOf b2 b1)⟩
  | 0x7E => some ⟨.ror, .absoluteX, .idxShift, fun b1 b2 => .rorAbsX (wordOf b2 b1)⟩
  | 0x81 => some ⟨.sta, .indexedIndirectX, .idx, fun b1 _ => .staIndX b1⟩
  | 0x84 => some ⟨.sty, .zeroPage, .core, fun b1 _ => .styZp b1⟩
  | 0x85 => some ⟨.sta, .zeroPage, .core, fun b1 _ => .staZp b1⟩
  | 0x86 => some ⟨.stx, .zeroPage, .core, fun b1 _ => .stxZp b1⟩
  | 0x88 => some ⟨.dey, .implied, .incdec, fun _ _ => .dey⟩
  | 0x8A => some ⟨.txa, .implied, .core, fun _ _ => .txa⟩
  | 0x8C => some ⟨.sty, .absolute, .core, fun b1 b2 => .styAbs (wordOf b2 b1)⟩
  | 0x8D => some ⟨.sta, .absolute, .core, fun b1 b2 => .staAbs (wordOf b2 b1)⟩
  | 0x8E => some ⟨.stx, .absolute, .core, fun b1 b2 => .stxAbs (wordOf b2 b1)⟩
  | 0x90 => some ⟨.bcc, .relative, .core, fun b1 _ => .bcc b1⟩
  | 0x91 => some ⟨.sta, .indirectIndexedY, .idx, fun b1 _ => .staIndY b1⟩
  | 0x94 => some ⟨.sty, .zeroPageX, .idx, fun b1 _ => .styZpX b1⟩
  | 0x95 => some ⟨.sta, .zeroPageX, .idx, fun b1 _ => .staZpX b1⟩
  | 0x96 => some ⟨.stx, .zeroPageY, .idx, fun b1 _ => .stxZpY b1⟩
  | 0x98 => some ⟨.tya, .implied, .core, fun _ _ => .tya⟩
  | 0x99 => some ⟨.sta, .absoluteY, .idx, fun b1 b2 => .staAbsY (wordOf b2 b1)⟩
  | 0x9A => some ⟨.txs, .implied, .core, fun _ _ => .txs⟩
  | 0x9D => some ⟨.sta, .absoluteX, .idx, fun b1 b2 => .staAbsX (wordOf b2 b1)⟩
  | 0xA0 => some ⟨.ldy, .immediate, .core, fun b1 _ => .ldyImm b1⟩
  | 0xA1 => some ⟨.lda, .indexedIndirectX, .idx, fun b1 _ => .ldaIndX b1⟩
  | 0xA2 => some ⟨.ldx, .immediate, .core, fun b1 _ => .ldxImm b1⟩
  | 0xA4 => some ⟨.ldy, .zeroPage, .core, fun b1 _ => .ldyZp b1⟩
  | 0xA5 => some ⟨.lda, .zeroPage, .core, fun b1 _ => .ldaZp b1⟩
  | 0xA6 => some ⟨.ldx, .zeroPage, .core, fun b1 _ => .ldxZp b1⟩
  | 0xA8 => some ⟨.tay, .implied, .core, fun _ _ => .tay⟩
  | 0xA9 => some ⟨.lda, .immediate, .core, fun b1 _ => .ldaImm b1⟩
  | 0xAA => some ⟨.tax, .implied, .core, fun _ _ => .tax⟩
  | 0xAC => some ⟨.ldy, .absolute, .core, fun b1 b2 => .ldyAbs (wordOf b2 b1)⟩
  | 0xAD => some ⟨.lda, .absolute, .core, fun b1 b2 => .ldaAbs (wordOf b2 b1)⟩
  | 0xAE => some ⟨.ldx, .absolute, .core, fun b1 b2 => .ldxAbs (wordOf b2 b1)⟩
  | 0xB0 => some ⟨.bcs, .relative, .core, fun b1 _ => .bcs b1⟩
  | 0xB1 => some ⟨.lda, .indirectIndexedY, .idx, fun b1 _ => .ldaIndY b1⟩
  | 0xB4 => some ⟨.ldy, .zeroPageX, .idx, fun b1 _ => .ldyZpX b1⟩
  | 0xB5 => some ⟨.lda, .zeroPageX, .idx, fun b1 _ => .ldaZpX b1⟩
  | 0xB6 => some ⟨.ldx, .zeroPageY, .idx, fun b1 _ => .ldxZpY b1⟩
  | 0xB8 => some ⟨.clv, .implied, .core, fun _ _ => .clv⟩
  | 0xB9 => some ⟨.lda, .absoluteY, .idx, fun b1 b2 => .ldaAbsY (wordOf b2 b1)⟩
  | 0xBA => some ⟨.tsx, .implied, .core, fun _ _ => .tsx⟩
  | 0xBC => some ⟨.ldy, .absoluteX, .idx, fun b1 b2 => .ldyAbsX (wordOf b2 b1)⟩
  | 0xBD => some ⟨.lda, .absoluteX, .idx, fun b1 b2 => .ldaAbsX (wordOf b2 b1)⟩
  | 0xBE => some ⟨.ldx, .absoluteY, .idx, fun b1 b2 => .ldxAbsY (wordOf b2 b1)⟩
  | 0xC0 => some ⟨.cpy, .immediate, .core, fun b1 _ => .cpyImm b1⟩
  | 0xC1 => some ⟨.cmp, .indexedIndirectX, .idx, fun b1 _ => .cmpIndX b1⟩
  | 0xC4 => some ⟨.cpy, .zeroPage, .core, fun b1 _ => .cpyZp b1⟩
  | 0xC5 => some ⟨.cmp, .zeroPage, .core, fun b1 _ => .cmpZp b1⟩
  | 0xC6 => some ⟨.dec, .zeroPage, .incdec, fun b1 _ => .decZp b1⟩
  | 0xC8 => some ⟨.iny, .implied, .incdec, fun _ _ => .iny⟩
  | 0xC9 => some ⟨.cmp, .immediate, .core, fun b1 _ => .cmpImm b1⟩
  | 0xCA => some ⟨.dex, .implied, .incdec, fun _ _ => .dex⟩
  | 0xCC => some ⟨.cpy, .absolute, .core, fun b1 b2 => .cpyAbs (wordOf b2 b1)⟩
  | 0xCD => some ⟨.cmp, .absolute, .core, fun b1 b2 => .cmpAbs (wordOf b2 b1)⟩
  | 0xCE => some ⟨.dec, .absolute, .incdec, fun b1 b2 => .decAbs (wordOf b2 b1)⟩
  | 0xD0 => some ⟨.bne, .relative, .core, fun b1 _ => .bne b1⟩
  | 0xD1 => some ⟨.cmp, .indirectIndexedY, .idx, fun b1 _ => .cmpIndY b1⟩
  | 0xD5 => some ⟨.cmp, .zeroPageX, .idx, fun b1 _ => .cmpZpX b1⟩
  | 0xD6 => some ⟨.dec, .zeroPageX, .idxIncdec, fun b1 _ => .decZpX b1⟩
  | 0xD8 => some ⟨.cld, .implied, .core, fun _ _ => .cld⟩
  | 0xD9 => some ⟨.cmp, .absoluteY, .idx, fun b1 b2 => .cmpAbsY (wordOf b2 b1)⟩
  | 0xDD => some ⟨.cmp, .absoluteX, .idx, fun b1 b2 => .cmpAbsX (wordOf b2 b1)⟩
  | 0xDE => some ⟨.dec, .absoluteX, .idxIncdec, fun b1 b2 => .decAbsX (wordOf b2 b1)⟩
  | 0xE0 => some ⟨.cpx, .immediate, .core, fun b1 _ => .cpxImm b1⟩
  | 0xE1 => some ⟨.sbc, .indexedIndirectX, .idx, fun b1 _ => .sbcIndX b1⟩
  | 0xE4 => some ⟨.cpx, .zeroPage, .core, fun b1 _ => .cpxZp b1⟩
  | 0xE5 => some ⟨.sbc, .zeroPage, .core, fun b1 _ => .sbcZp b1⟩
  | 0xE6 => some ⟨.inc, .zeroPage, .incdec, fun b1 _ => .incZp b1⟩
  | 0xE8 => some ⟨.inx, .implied, .incdec, fun _ _ => .inx⟩
  | 0xE9 => some ⟨.sbc, .immediate, .core, fun b1 _ => .sbcImm b1⟩
  | 0xEA => some ⟨.nop, .implied, .nop, fun _ _ => .nop⟩
  | 0xEC => some ⟨.cpx, .absolute, .core, fun b1 b2 => .cpxAbs (wordOf b2 b1)⟩
  | 0xED => some ⟨.sbc, .absolute, .core, fun b1 b2 => .sbcAbs (wordOf b2 b1)⟩
  | 0xEE => some ⟨.inc, .absolute, .incdec, fun b1 b2 => .incAbs (wordOf b2 b1)⟩
  | 0xF0 => some ⟨.beq, .relative, .core, fun b1 _ => .beq b1⟩
  | 0xF1 => some ⟨.sbc, .indirectIndexedY, .idx, fun b1 _ => .sbcIndY b1⟩
  | 0xF5 => some ⟨.sbc, .zeroPageX, .idx, fun b1 _ => .sbcZpX b1⟩
  | 0xF6 => some ⟨.inc, .zeroPageX, .idxIncdec, fun b1 _ => .incZpX b1⟩
  | 0xF8 => some ⟨.sed, .implied, .core, fun _ _ => .sed⟩
  | 0xF9 => some ⟨.sbc, .absoluteY, .idx, fun b1 b2 => .sbcAbsY (wordOf b2 b1)⟩
  | 0xFD => some ⟨.sbc, .absoluteX, .idx, fun b1 b2 => .sbcAbsX (wordOf b2 b1)⟩
  | 0xFE => some ⟨.inc, .absoluteX, .idxIncdec, fun b1 b2 => .incAbsX (wordOf b2 b1)⟩
  | _ => none

/-- Whether an opcode byte is absent under a configuration (R101): it has no row, or its row's group is disabled. -/
def opcodeAbsent (cfg : Config) (op : Byte) : Bool :=
  match dispatchTable op with
  | none => true
  | some d => !cfg.enables d.group

/-! ### The decoder -/

/-- Why the decoder rejects bytes. The first two are the absent entries of R101; the last two say that the byte list is
shorter than an instruction, which never happens at PC, since every address has a byte. -/
inductive DecodeError where
  | absentOpcode (op : Byte)                     -- no row in any configuration
  | disabledGroup (op : Byte) (group : Group)    -- a row of a group the configuration does not have
  | noOpcode                                     -- no byte at all
  | missingOperand (op : Byte)                   -- an operand byte is missing
deriving DecidableEq, Repr

/-- The operand bytes a descriptor's mode asks for, taken from the bytes after the opcode (R91, R92). -/
def takeOperands (op : Byte) (d : Descriptor) (rest : List Byte) : Except DecodeError (Instr × List Byte) :=
  match d.mode.operandBytes, rest with
  | 0, r => .ok (d.assemble 0x00#8 0x00#8, r)
  | 1, b1 :: r => .ok (d.assemble b1 0x00#8, r)
  | 2, b1 :: b2 :: r => .ok (d.assemble b1 b2, r)
  | _, _ => .error (.missingOperand op)

/-- Decoding under a configuration (R94, R101, R103): the instruction at the head of the bytes and the bytes after it,
or a rejection by name. -/
def decode (cfg : Config) : List Byte → Except DecodeError (Instr × List Byte)
  | [] => .error .noOpcode
  | op :: rest =>
    match dispatchTable op with
    | none => .error (.absentOpcode op)
    | some d => if cfg.enables d.group then takeOperands op d rest else .error (.disabledGroup op d.group)

/-- The first three bytes of a number whose bit 0 is the least significant bit of the first byte; the bits from `nbits`
on are 0 (three bytes are the longest instruction, R90). -/
def tableBytes (nbits w : Nat) : List Byte :=
  let v := w % 2 ^ nbits
  [BitVec.ofNat 8 v, BitVec.ofNat 8 (v / 256), BitVec.ofNat 8 (v / 65536)]

/-- The instruction the decoder reads from a word numbered as the opcode table numbers it, with every group enabled. -/
def decodeTableWord (nbits w : Nat) : Option Instr :=
  match decode Config.full (tableBytes nbits w) with
  | .ok (i, _) => some i
  | .error _ => none

/-! ### The encoder -/

/-- The bytes of an instruction (R90). -/
def encode (i : Instr) : List Byte := i.opcode :: i.operandBytes

end Sys2Proof
end

