-- ==== Sys2Proof/Machine/State.lean ====
section
/-! DEFINITION. The machine's state as plain data (10_state.md R30 to R49), its faults and refusals, and the
state after reset (70_reset_and_hazards.md R340). -/

namespace Sys2Proof.Machine

/-- Memory: the non-zero bytes of the 65536 (20_memory.md R60), as (address, byte) pairs with addresses
strictly rising. An unlisted address reads as 0x00, the reset contents (10_state.md R46). DESIGN CHOICE
(log entry 5): the representation. -/
abbrev Mem := List Host.Cell

/-- What the fault latch records: the absent opcode byte and the address it was fetched from
(60_exceptions.md R300). -/
structure FaultRecord where
  opcode : Byte
  pc     : Word
deriving DecidableEq, Repr

/-- Why a step ends in a fault. -/
inductive Fault where
  /-- Raised by the fetch when the opcode byte at PC is absent from the configured dispatch table
  (60_exceptions.md R300; 40_sequencer_addressing.md R121). Safe: the spec's own fault, and its only one.
  The state it leaves is the state before the step with the latch set (`State.latchFault`, log entry 3). -/
  | invalidOpcode (opcode : Byte) (pc : Word)
  /-- Answered by the step of a state whose fault latch is set: "the core takes no step" (60_exceptions.md R303).
  It carries what the latch holds. Safe: the core goes on nowhere (log entry 4). -/
  | halted (opcode : Byte) (pc : Word)
deriving DecidableEq, Repr

/-- Why a step is refused. -/
inductive Refusal where
  /-- An instruction without a meaning, by its mnemonic. Raised by no arm of exec: every instruction of the opcode
  table has its meaning (00_scope.md R15 asks for no refusal). Safe. -/
  | notModelled (mnemonic : String)
deriving DecidableEq, Repr

/-- The state of the core (10_state.md R30): registers, the seven flags as seven separate bits (R39), the fault
latch (R44) and memory; and the configuration record, a parameter that no step writes (R47; log entry 1). -/
structure State where
  a     : Byte                 -- accumulator (R31)
  x     : Byte                 -- index register X (R32)
  y     : Byte                 -- index register Y (R33)
  sp    : Byte                 -- stack pointer, offset in the stack page (R34)
  pc    : Word                 -- program counter (R35)
  flagN : Bool                 -- Negative, status bit 7 (R36)
  flagV : Bool                 -- Overflow, status bit 6
  flagB : Bool                 -- Break, status bit 4, a stored flag (R40)
  flagD : Bool                 -- Decimal, status bit 3
  flagI : Bool                 -- Interrupt-disable, status bit 2
  flagZ : Bool                 -- Zero, status bit 1
  flagC : Bool                 -- Carry, status bit 0
  fault : Option FaultRecord   -- the fault latch (R44)
  mem   : Mem                  -- memory (20_memory.md R60)
  cfg   : Config               -- the configuration (00_scope.md R6, R7)
deriving DecidableEq, Repr

/-- The state after reset (10_state.md R46; 70_reset_and_hazards.md R340), of a core with the default
configuration (DESIGN CHOICE, log entry 2). -/
def State.reset : State :=
  { a := 0x00#8, x := 0x00#8, y := 0x00#8, sp := 0xFF#8, pc := 0x0000#16,
    flagN := false, flagV := false, flagB := false, flagD := false, flagI := false, flagZ := false, flagC := false,
    fault := none, mem := [], cfg := Config.default }

/-- What a step answers. -/
abbrev Result := Host.Outcome State Fault Refusal

end Sys2Proof.Machine
end

