-- ==== Sys2Proof/Machine/Ops.lean ====
section
/-! DEFINITION. The named operations over memory and registers: byte reads and writes (20_memory.md R60), the stack
primitives (46_stack.md R240, R241), the default PC advance (40_sequencer_addressing.md R122), and the status
byte (10_state.md R40; 46_stack.md R246), which the exception frame holds, and the entry into and return from an
exception (60_exceptions.md R308 to R310). -/

namespace Sys2Proof.Machine

/-! ### Memory as data -/

/-- The byte at address `k`: the listed one, else 0x00 (20_memory.md R60, R64). -/
def Mem.read : Mem → Nat → Byte
  | [], _ => 0x00#8
  | (k', v) :: m, k => if k' = k then v else Mem.read m k

/-- The memory without address `k`, which then reads as 0x00. -/
def Mem.erase : Mem → Nat → Mem
  | [], _ => []
  | (k', v) :: m, k => if k' = k then Mem.erase m k else (k', v) :: Mem.erase m k

/-- The memory with `v` at address `k`, keeping the addresses in rising order. -/
def Mem.insert : Mem → Nat → Byte → Mem
  | [], k, v => [(k, v)]
  | (k', v') :: m, k, v =>
    if k < k' then (k, v) :: (k', v') :: m
    else if k' = k then (k, v) :: m
    else (k', v') :: Mem.insert m k v

/-- `v` stored at address `k`; storing 0x00 removes the entry, so equal memories are equal lists. -/
def Mem.write (m : Mem) (k : Nat) (v : Byte) : Mem :=
  if v = 0x00#8 then Mem.erase m k else Mem.insert m k v

/-- The addresses of `m` rise strictly from `lo` on, stay below 65536, and no listed byte is 0x00. -/
def Mem.wfFrom : Nat → Mem → Bool
  | _, [] => true
  | lo, (k, v) :: m => decide (lo ≤ k) && decide (k < 65536) && decide (v ≠ 0x00#8) && Mem.wfFrom (k + 1) m

/-- The canonical form of memory (log entry 5). -/
def Mem.wf (m : Mem) : Bool := Mem.wfFrom 0 m

/-! ### Byte accesses -/

/-- `MemRead(addr)` (00_scope.md R11). -/
def State.read (s : State) (addr : Word) : Byte := Mem.read s.mem addr.toNat

/-- `MemWrite(addr, v)` (00_scope.md R11). -/
def State.write (s : State) (addr : Word) (v : Byte) : State :=
  { s with mem := Mem.write s.mem addr.toNat v }

/-- `Read16` of 20_memory.md R67: two byte reads, low byte at the lower address, the address wrapping at 65536. -/
def State.read16 (s : State) (addr : Word) : Word := wordOf (s.read (addr + 1)) (s.read addr)

/-! ### The program counter -/

/-- The default advance of PC over an instruction of `n` bytes (40_sequencer_addressing.md R122, R123). -/
def State.advance (n : Nat) (s : State) : State := { s with pc := s.pc + BitVec.ofNat 16 n }

/-- An instruction that is no control transfer ends: PC advances over its `n` bytes (R122). -/
def finish (n : Nat) (s : State) : Result := .next (s.advance n)

/-! ### The stack -/

/-- The address the stack pointer value `sp` designates (10_state.md R34; 20_memory.md R63). -/
def stackAddr (sp : Byte) : Word := 0x0100#16 + zext16 sp

/-- `Push(v)` (46_stack.md R240). -/
def State.push (s : State) (v : Byte) : State :=
  { s.write (stackAddr s.sp) v with sp := s.sp - 1 }

/-- `Pull()` (46_stack.md R241): the byte and the state after. -/
def State.pull (s : State) : Byte × State :=
  (s.read (stackAddr (s.sp + 1)), { s with sp := s.sp + 1 })

/-- A 16-bit value pushed high byte first (20_memory.md R68). -/
def State.pushWord (s : State) (w : Word) : State := (s.push (hiByte w)).push (loByte w)

/-- A 16-bit value pulled low byte first (20_memory.md R68). -/
def State.pullWord (s : State) : Word × State :=
  let l := s.pull
  let h := l.2.pull
  (wordOf h.1 l.1, h.2)

/-! ### The status byte -/

/-- One flag as a byte with that flag at bit `k`. -/
def flagBit (b : Bool) (k : Nat) : Byte := if b then 1#8 <<< k else 0#8

/-- The status byte P (10_state.md R40): bit 5 is 0 (R37), B is the stored flag. -/
def State.statusByte (s : State) : Byte :=
  flagBit s.flagN 7 ||| flagBit s.flagV 6 ||| flagBit s.flagB 4 ||| flagBit s.flagD 3 |||
    flagBit s.flagI 2 ||| flagBit s.flagZ 1 ||| flagBit s.flagC 0

/-- `LoadP(p)` (46_stack.md R246): bit 5 of `p` is ignored. -/
def State.loadP (s : State) (p : Byte) : State :=
  { s with flagN := p.getLsbD 7, flagV := p.getLsbD 6, flagB := p.getLsbD 4, flagD := p.getLsbD 3,
           flagI := p.getLsbD 2, flagZ := p.getLsbD 1, flagC := p.getLsbD 0 }

/-! ### Exceptions -/

/-- The address of the low byte of the BRK target, BRK_VECTOR (00_scope.md R6; 20_memory.md R65). -/
def brkVector : Word := 0xFFFE#16

/-- Taking the software interrupt (60_exceptions.md R309; 47_flags_brk.md R261) with return address `ret`: B is set,
the return address and then the status byte (with B = 1) are pushed, I is set, and PC comes from the vector. -/
def State.takeInterrupt (s : State) (ret : Word) : State :=
  let framed := ({ s with flagB := true }).pushWord ret
  let saved := framed.push framed.statusByte
  { saved with flagI := true, pc := saved.read16 brkVector }

/-- Return from interrupt (60_exceptions.md R310; 45_control.md R224): the status byte, then PC, with no +1. -/
def State.returnFromInterrupt (s : State) : State :=
  let p := s.pull
  let r := (p.2.loadP p.1).pullWord
  { r.2 with pc := r.1 }

/-- Entry on InvalidOpcode (60_exceptions.md R301, R302, R308): the latch is set and nothing else changes. -/
def State.latchFault (s : State) (opcode : Byte) (pc : Word) : State :=
  { s with fault := some { opcode := opcode, pc := pc } }

/-- The state the core holds after a step that answered the fault `f` (60_exceptions.md R302, R303): the latch set by
an InvalidOpcode, and no change where the latch was set already. -/
def State.afterFault (s : State) : Fault → State
  | .invalidOpcode opcode pc => s.latchFault opcode pc
  | .halted _ _ => s

/-- The spec's cause code (60_exceptions.md R300): InvalidOpcode is 1, and it is the latched cause of a halted core. -/
def Fault.code : Fault → Nat
  | .invalidOpcode _ _ => 1
  | .halted _ _ => 1

/-! ### Instruction fetch -/

/-- The bytes at PC that an instruction can span (40_sequencer_addressing.md R120, R123). The decoder uses only those
the opcode's mode asks for. DEDUCED (log entry 7): reading the others is unobservable (20_memory.md R64). -/
def State.fetchBytes (s : State) : List Byte :=
  [s.read s.pc, s.read (s.pc + 1), s.read (s.pc + 2)]

/-- The instruction at PC, or none where its opcode is absent (40_sequencer_addressing.md R121). -/
def State.fetch (s : State) : Option Instr :=
  match decode s.cfg s.fetchBytes with
  | .ok (i, _) => some i
  | .error _ => none

/-- The bytes `bs` stored from `addr` on, addresses wrapping at 65536. -/
def State.storeBytes (s : State) (addr : Word) : List Byte → State
  | [] => s
  | b :: bs => State.storeBytes (s.write addr b) (addr + 1) bs

/-- The state with the instruction word `w` of `nbits` bits placed at PC, its opcode group enabled and the fault latch
clear, so that the next step runs it (log entry 6). -/
def State.placeWord (s : State) (nbits w : Nat) : State :=
  let bytes := tableBytes nbits w
  let placed := s.storeBytes s.pc bytes
  { placed with
    fault := none
    cfg := match decodeTableWord nbits w with
      | some i => placed.cfg.enabling i.group
      | none => placed.cfg }

end Sys2Proof.Machine
end

