-- ==== Sys2Proof/Machine/Flags.lean ====
section
/-! DEFINITION. Every flag computation the spec gives: SetNZ (00_scope.md R12), Compare (44_compare_arith.md R190),
AddWithCarry (R194), BIT's flags (43_logic.md R183), and the carry of the shifts (48_optional_groups.md R270 to R273). -/

namespace Sys2Proof.Machine

/-- `SetNZ(v)` (00_scope.md R12): Z says that `v` is 0, N is bit 7 of `v`. -/
def State.setNZ (s : State) (v : Byte) : State :=
  { s with flagZ := decide (v = 0x00#8), flagN := v.getLsbD 7 }

/-- C and SetNZ of a shift or rotate with result `r` and carry out `c` (48_optional_groups.md R270 to R273). -/
def State.setCNZ (s : State) (c : Bool) (r : Byte) : State :=
  { s with flagC := c, flagZ := decide (r = 0x00#8), flagN := r.getLsbD 7 }

/-- `Compare(r, m)` (44_compare_arith.md R190): C, Z and N of the wrapped difference; no register is written. -/
def State.compare (s : State) (r m : Byte) : State :=
  s.setCNZ (decide (m.toNat ≤ r.toNat)) (r - m)

/-- `sum9` of 44_compare_arith.md R194, an integer in 0..511. -/
def sum9 (a m : Byte) (c : Bool) : Nat := a.toNat + m.toNat + c.toNat

/-- The overflow of adding `m` to `a` with result `res` (44_compare_arith.md R194). -/
def addOverflow (a m res : Byte) : Bool := decide ((~~~(a ^^^ m) &&& (a ^^^ res) &&& 0x80#8) ≠ 0#8)

/-- `AddWithCarry(A, m, C)` (44_compare_arith.md R194), the carry in and A taken before the update. -/
def State.addWithCarry (s : State) (m : Byte) : State :=
  let sum := sum9 s.a m s.flagC
  let res := BitVec.ofNat 8 sum
  { s with a := res, flagC := decide (sum > 255), flagV := addOverflow s.a m res,
           flagZ := decide (res = 0x00#8), flagN := res.getLsbD 7 }

/-- BIT's flags (43_logic.md R183): Z from `A & m`, N and V from bits 7 and 6 of `m`. -/
def State.bitTest (s : State) (m : Byte) : State :=
  { s with flagZ := decide (s.a &&& m = 0x00#8), flagN := m.getLsbD 7, flagV := m.getLsbD 6 }

end Sys2Proof.Machine
end

