-- ==== Sys2Proof/Machine/Operands.lean ====
section
/-! DEFINITION. The addressing-mode resolver (40_sequencer_addressing.md R130 to R146): every effective address, the
jump and branch targets, and the resolver as one function of the mode and the operand bytes. -/

namespace Sys2Proof.Machine

/-- ZeroPage (R134). -/
def eaZeroPage (zp : Byte) : Word := zext16 zp

/-- Absolute (R135): the operand word itself. -/
def eaAbsolute (w : Word) : Word := w

/-- ZeroPageX (R138): the sum wraps within page 0. -/
def eaZeroPageX (zp : Byte) (s : State) : Word := zext16 (zp + s.x)

/-- ZeroPageY (R139). -/
def eaZeroPageY (zp : Byte) (s : State) : Word := zext16 (zp + s.y)

/-- AbsoluteX (R140): the sum carries into the high byte and wraps at 65536. -/
def eaAbsoluteX (w : Word) (s : State) : Word := w + zext16 s.x

/-- AbsoluteY (R141). -/
def eaAbsoluteY (w : Word) (s : State) : Word := w + zext16 s.y

/-- The zero-page pointer at `p`, its high byte read at `p + 1` within page 0 (R142, R143). -/
def zeroPagePointer (p : Byte) (s : State) : Word :=
  wordOf (s.read (zext16 (p + 1))) (s.read (zext16 p))

/-- IndexedIndirectX, `(zp,X)` (R142). -/
def eaIndexedIndirectX (zp : Byte) (s : State) : Word := zeroPagePointer (zp + s.x) s

/-- IndirectIndexedY, `(zp),Y` (R143). -/
def eaIndirectIndexedY (zp : Byte) (s : State) : Word := zeroPagePointer zp s + zext16 s.y

/-- Where JMP (ind) reads the high byte of its target: the pointer's high byte never carries (R137). -/
def pointerHighAddr (ptr : Word) : Word := wordOf (hiByte ptr) (loByte ptr + 1)

/-- The target of JMP (ind) through `ptr`, with the page-wrap quirk (R137; 45_control.md R221). -/
def indirectTarget (ptr : Word) (s : State) : Word := wordOf (s.read (pointerHighAddr ptr)) (s.read ptr)

/-- The branch target from an opcode at `pc0` with displacement `d` (45_control.md R210). -/
def branchTarget (pc0 : Word) (d : Byte) : Word := pc0 + 2 + sext16 d

/-- What the resolver yields (R130). -/
inductive Operand where
  | none
  | accumulator
  | value (m : Byte)
  | address (ea : Word)
  | displacement (d : Byte)
  | target (t : Word)
deriving DecidableEq, Repr

/-- The resolver (R130 to R143): mode and operand bytes to operand. -/
def resolve (m : Mode) (b1 b2 : Byte) (s : State) : Operand :=
  match m with
  | .implied => .none
  | .accumulator => .accumulator
  | .immediate => .value b1
  | .zeroPage => .address (eaZeroPage b1)
  | .relative => .displacement b1
  | .absolute => .address (eaAbsolute (wordOf b2 b1))
  | .indirect => .target (indirectTarget (wordOf b2 b1) s)
  | .zeroPageX => .address (eaZeroPageX b1 s)
  | .zeroPageY => .address (eaZeroPageY b1 s)
  | .absoluteX => .address (eaAbsoluteX (wordOf b2 b1) s)
  | .absoluteY => .address (eaAbsoluteY (wordOf b2 b1) s)
  | .indexedIndirectX => .address (eaIndexedIndirectX b1 s)
  | .indirectIndexedY => .address (eaIndirectIndexedY b1 s)

/-- The resolved operand of an instruction in a state. -/
def operandOf (i : Instr) (s : State) : Operand := resolve i.mode i.byte1 i.byte2 s

/-- The operand value M of a read or read-modify-write instruction (R145; 48_optional_groups.md R270): the immediate,
the byte at EA, or A. The other forms have no operand value; 0 there is never used. -/
def operandValue (i : Instr) (s : State) : Byte :=
  match operandOf i s with
  | .value m => m
  | .address ea => s.read ea
  | .accumulator => s.a
  | _ => 0x00#8

/-- The effective address of an instruction whose mode yields one (R130). The other forms have none; 0 there is
never used. -/
def effectiveAddress (i : Instr) (s : State) : Word :=
  match operandOf i s with
  | .address ea => ea
  | _ => 0x0000#16

/-- The operand class of each mnemonic (R126). -/
def operandClass : Mnemonic → OperandClass
  | .lda | .ldx | .ldy | .and | .ora | .eor | .bit | .cmp | .cpx | .cpy | .adc | .sbc => .read
  | .sta | .stx | .sty => .write
  | .asl | .lsr | .rol | .ror | .inc | .dec => .modify
  | .tax | .tay | .tsx | .txa | .txs | .tya
  | .bpl | .bmi | .bvc | .bvs | .bcc | .bcs | .bne | .beq
  | .jmp | .jsr | .rts | .rti
  | .pha | .pla | .php | .plp
  | .clc | .sec | .cli | .sei | .clv | .cld | .sed
  | .brk | .inx | .iny | .dex | .dey | .nop => .noMemory

end Sys2Proof.Machine
end

