-- ==== Sys2Proof/Machine/Arith.lean ====
section
/-! DEFINITION. Compare and arithmetic (44_compare_arith.md R190 to R199): binary whatever D holds (R196). -/

namespace Sys2Proof.Machine

/-- CMP with the operand value `m` (R191). -/
def Sem.cmp (m : Byte) (s : State) : State := s.compare s.a m

/-- CPX (R192). -/
def Sem.cpx (m : Byte) (s : State) : State := s.compare s.x m

/-- CPY (R193). -/
def Sem.cpy (m : Byte) (s : State) : State := s.compare s.y m

/-- ADC (R195). -/
def Sem.adc (m : Byte) (s : State) : State := s.addWithCarry m

/-- SBC (R197): AddWithCarry of the operand's one's complement. -/
def Sem.sbc (m : Byte) (s : State) : State := s.addWithCarry (m ^^^ 0xFF#8)

/-- CMP # (0xC9; R191, R133). -/
def execCmpImm (imm : Byte) (s : State) : Result := finish 2 (Sem.cmp imm s)

/-- CMP zp (0xC5; R191, R134). -/
def execCmpZp (zp : Byte) (s : State) : Result := finish 2 (Sem.cmp (s.read (eaZeroPage zp)) s)

/-- CMP abs (0xCD; R191, R135). -/
def execCmpAbs (addr : Word) (s : State) : Result := finish 3 (Sem.cmp (s.read (eaAbsolute addr)) s)

/-- CMP (zp,X) (0xC1; R191, R142). -/
def execCmpIndX (zp : Byte) (s : State) : Result := finish 2 (Sem.cmp (s.read (eaIndexedIndirectX zp s)) s)

/-- CMP (zp),Y (0xD1; R191, R143). -/
def execCmpIndY (zp : Byte) (s : State) : Result := finish 2 (Sem.cmp (s.read (eaIndirectIndexedY zp s)) s)

/-- CMP zp,X (0xD5; R191, R138). -/
def execCmpZpX (zp : Byte) (s : State) : Result := finish 2 (Sem.cmp (s.read (eaZeroPageX zp s)) s)

/-- CMP abs,Y (0xD9; R191, R141). -/
def execCmpAbsY (base : Word) (s : State) : Result := finish 3 (Sem.cmp (s.read (eaAbsoluteY base s)) s)

/-- CMP abs,X (0xDD; R191, R140). -/
def execCmpAbsX (base : Word) (s : State) : Result := finish 3 (Sem.cmp (s.read (eaAbsoluteX base s)) s)

/-- CPX # (0xE0; R192, R133). -/
def execCpxImm (imm : Byte) (s : State) : Result := finish 2 (Sem.cpx imm s)

/-- CPX zp (0xE4; R192, R134). -/
def execCpxZp (zp : Byte) (s : State) : Result := finish 2 (Sem.cpx (s.read (eaZeroPage zp)) s)

/-- CPX abs (0xEC; R192, R135). -/
def execCpxAbs (addr : Word) (s : State) : Result := finish 3 (Sem.cpx (s.read (eaAbsolute addr)) s)

/-- CPY # (0xC0; R193, R133). -/
def execCpyImm (imm : Byte) (s : State) : Result := finish 2 (Sem.cpy imm s)

/-- CPY zp (0xC4; R193, R134). -/
def execCpyZp (zp : Byte) (s : State) : Result := finish 2 (Sem.cpy (s.read (eaZeroPage zp)) s)

/-- CPY abs (0xCC; R193, R135). -/
def execCpyAbs (addr : Word) (s : State) : Result := finish 3 (Sem.cpy (s.read (eaAbsolute addr)) s)

/-- ADC # (0x69; R195, R133). -/
def execAdcImm (imm : Byte) (s : State) : Result := finish 2 (Sem.adc imm s)

/-- ADC zp (0x65; R195, R134). -/
def execAdcZp (zp : Byte) (s : State) : Result := finish 2 (Sem.adc (s.read (eaZeroPage zp)) s)

/-- ADC abs (0x6D; R195, R135). -/
def execAdcAbs (addr : Word) (s : State) : Result := finish 3 (Sem.adc (s.read (eaAbsolute addr)) s)

/-- ADC (zp,X) (0x61; R195, R142). -/
def execAdcIndX (zp : Byte) (s : State) : Result := finish 2 (Sem.adc (s.read (eaIndexedIndirectX zp s)) s)

/-- ADC (zp),Y (0x71; R195, R143). -/
def execAdcIndY (zp : Byte) (s : State) : Result := finish 2 (Sem.adc (s.read (eaIndirectIndexedY zp s)) s)

/-- ADC zp,X (0x75; R195, R138). -/
def execAdcZpX (zp : Byte) (s : State) : Result := finish 2 (Sem.adc (s.read (eaZeroPageX zp s)) s)

/-- ADC abs,Y (0x79; R195, R141). -/
def execAdcAbsY (base : Word) (s : State) : Result := finish 3 (Sem.adc (s.read (eaAbsoluteY base s)) s)

/-- ADC abs,X (0x7D; R195, R140). -/
def execAdcAbsX (base : Word) (s : State) : Result := finish 3 (Sem.adc (s.read (eaAbsoluteX base s)) s)

/-- SBC # (0xE9; R197, R133). -/
def execSbcImm (imm : Byte) (s : State) : Result := finish 2 (Sem.sbc imm s)

/-- SBC zp (0xE5; R197, R134). -/
def execSbcZp (zp : Byte) (s : State) : Result := finish 2 (Sem.sbc (s.read (eaZeroPage zp)) s)

/-- SBC abs (0xED; R197, R135). -/
def execSbcAbs (addr : Word) (s : State) : Result := finish 3 (Sem.sbc (s.read (eaAbsolute addr)) s)

/-- SBC (zp,X) (0xE1; R197, R142). -/
def execSbcIndX (zp : Byte) (s : State) : Result := finish 2 (Sem.sbc (s.read (eaIndexedIndirectX zp s)) s)

/-- SBC (zp),Y (0xF1; R197, R143). -/
def execSbcIndY (zp : Byte) (s : State) : Result := finish 2 (Sem.sbc (s.read (eaIndirectIndexedY zp s)) s)

/-- SBC zp,X (0xF5; R197, R138). -/
def execSbcZpX (zp : Byte) (s : State) : Result := finish 2 (Sem.sbc (s.read (eaZeroPageX zp s)) s)

/-- SBC abs,Y (0xF9; R197, R141). -/
def execSbcAbsY (base : Word) (s : State) : Result := finish 3 (Sem.sbc (s.read (eaAbsoluteY base s)) s)

/-- SBC abs,X (0xFD; R197, R140). -/
def execSbcAbsX (base : Word) (s : State) : Result := finish 3 (Sem.sbc (s.read (eaAbsoluteX base s)) s)

end Sys2Proof.Machine
end

