-- ==== Sys2Proof/Machine/Control.lean ====
section
/-! DEFINITION. Branches, jumps, subroutine call and return (45_control.md R210 to R224). Each sets PC itself
(40_sequencer_addressing.md R125). -/

namespace Sys2Proof.Machine

/-- `Branch(cond)` with displacement `d` (R210): pc0 is still in PC. -/
def State.branch (s : State) (cond : Bool) (d : Byte) : State :=
  { s with pc := if cond then branchTarget s.pc d else s.pc + 2 }

/-- BPL (R211). -/
def Sem.bpl (d : Byte) (s : State) : State := s.branch (!s.flagN) d

/-- BMI (R212). -/
def Sem.bmi (d : Byte) (s : State) : State := s.branch s.flagN d

/-- BVC (R213). -/
def Sem.bvc (d : Byte) (s : State) : State := s.branch (!s.flagV) d

/-- BVS (R214). -/
def Sem.bvs (d : Byte) (s : State) : State := s.branch s.flagV d

/-- BCC (R215). -/
def Sem.bcc (d : Byte) (s : State) : State := s.branch (!s.flagC) d

/-- BCS (R216). -/
def Sem.bcs (d : Byte) (s : State) : State := s.branch s.flagC d

/-- BNE (R217). -/
def Sem.bne (d : Byte) (s : State) : State := s.branch (!s.flagZ) d

/-- BEQ (R218). -/
def Sem.beq (d : Byte) (s : State) : State := s.branch s.flagZ d

/-- JMP to `target` (R220, R221). -/
def Sem.jmp (target : Word) (s : State) : State := { s with pc := target }

/-- JSR (R222): the address of the JSR's last byte is pushed, high byte first. -/
def Sem.jsr (target : Word) (s : State) : State := { s.pushWord (s.pc + 2) with pc := target }

/-- RTS (R223): the pulled address plus 1. -/
def Sem.rts (s : State) : State := { s.pullWord.2 with pc := s.pullWord.1 + 1 }

/-- RTI (R224). -/
def Sem.rti (s : State) : State := s.returnFromInterrupt

/-- BPL rel (0x10; R211, R136). -/
def execBpl (d : Byte) (s : State) : Result := .next (Sem.bpl d s)

/-- BMI rel (0x30; R212, R136). -/
def execBmi (d : Byte) (s : State) : Result := .next (Sem.bmi d s)

/-- BVC rel (0x50; R213, R136). -/
def execBvc (d : Byte) (s : State) : Result := .next (Sem.bvc d s)

/-- BVS rel (0x70; R214, R136). -/
def execBvs (d : Byte) (s : State) : Result := .next (Sem.bvs d s)

/-- BCC rel (0x90; R215, R136). -/
def execBcc (d : Byte) (s : State) : Result := .next (Sem.bcc d s)

/-- BCS rel (0xB0; R216, R136). -/
def execBcs (d : Byte) (s : State) : Result := .next (Sem.bcs d s)

/-- BNE rel (0xD0; R217, R136). -/
def execBne (d : Byte) (s : State) : Result := .next (Sem.bne d s)

/-- BEQ rel (0xF0; R218, R136). -/
def execBeq (d : Byte) (s : State) : Result := .next (Sem.beq d s)

/-- JMP abs (0x4C; R220, R135). -/
def execJmpAbs (target : Word) (s : State) : Result := .next (Sem.jmp target s)

/-- JMP (ind) (0x6C; R221, R137). -/
def execJmpInd (ptr : Word) (s : State) : Result := .next (Sem.jmp (indirectTarget ptr s) s)

/-- JSR abs (0x20; R222, R135). -/
def execJsr (target : Word) (s : State) : Result := .next (Sem.jsr target s)

/-- RTS (0x60; R223). -/
def execRts (s : State) : Result := .next (Sem.rts s)

/-- RTI (0x40; R224). -/
def execRti (s : State) : Result := .next (Sem.rti s)

end Sys2Proof.Machine
end

