-- ==== Sys2Proof/Machine/FlagOps.lean ====
section
/-! DEFINITION. Flag instructions (47_flags_brk.md R250 to R256) and BRK (R260 to R262). -/

namespace Sys2Proof.Machine

/-- CLC (R250). -/
def Sem.clc (s : State) : State := { s with flagC := false }

/-- SEC (R251). -/
def Sem.sec (s : State) : State := { s with flagC := true }

/-- CLI (R252). -/
def Sem.cli (s : State) : State := { s with flagI := false }

/-- SEI (R253). -/
def Sem.sei (s : State) : State := { s with flagI := true }

/-- CLV (R254). -/
def Sem.clv (s : State) : State := { s with flagV := false }

/-- CLD (R255). -/
def Sem.cld (s : State) : State := { s with flagD := false }

/-- SED (R256). -/
def Sem.sed (s : State) : State := { s with flagD := true }

/-- CLC (0x18; R250). -/
def execClc (s : State) : Result := finish 1 (Sem.clc s)

/-- SEC (0x38; R251). -/
def execSec (s : State) : Result := finish 1 (Sem.sec s)

/-- CLI (0x58; R252). -/
def execCli (s : State) : Result := finish 1 (Sem.cli s)

/-- SEI (0x78; R253). -/
def execSei (s : State) : Result := finish 1 (Sem.sei s)

/-- CLV (0xB8; R254). -/
def execClv (s : State) : Result := finish 1 (Sem.clv s)

/-- CLD (0xD8; R255). -/
def execCld (s : State) : Result := finish 1 (Sem.cld s)

/-- SED (0xF8; R256). -/
def execSed (s : State) : Result := finish 1 (Sem.sed s)

/-- BRK (0x00; R260 to R262, 60_exceptions.md R309): the software interrupt with return address pc0 + 2, or in
Marker mode nothing but the default advance. -/
def execBrk (s : State) : Result :=
  match s.cfg.brkMode with
  | .interrupt => .next (s.takeInterrupt (s.pc + 2))
  | .marker => finish 1 s

end Sys2Proof.Machine
end

