-- ==== Sys2Proof/Machine/IncDec.lean ====
section
/-! DEFINITION. Groups INCDEC and NOP (48_optional_groups.md R280 to R290). -/

namespace Sys2Proof.Machine

/-- INC of the byte at `ea` (R280, R274). -/
def Sem.inc (ea : Word) (s : State) : State := (s.setNZ (s.read ea + 1)).write ea (s.read ea + 1)

/-- DEC of the byte at `ea` (R281, R274). -/
def Sem.dec (ea : Word) (s : State) : State := (s.setNZ (s.read ea - 1)).write ea (s.read ea - 1)

/-- INX (R282). -/
def Sem.inx (s : State) : State := ({ s with x := s.x + 1 }).setNZ (s.x + 1)

/-- INY (R283). -/
def Sem.iny (s : State) : State := ({ s with y := s.y + 1 }).setNZ (s.y + 1)

/-- DEX (R284). -/
def Sem.dex (s : State) : State := ({ s with x := s.x - 1 }).setNZ (s.x - 1)

/-- DEY (R285). -/
def Sem.dey (s : State) : State := ({ s with y := s.y - 1 }).setNZ (s.y - 1)

/-- NOP (R290): nothing but the default advance. -/
def Sem.nop (s : State) : State := s

/-- INC zp (0xE6; R280, R134). -/
def execIncZp (zp : Byte) (s : State) : Result := finish 2 (Sem.inc (eaZeroPage zp) s)

/-- INC abs (0xEE; R280, R135). -/
def execIncAbs (addr : Word) (s : State) : Result := finish 3 (Sem.inc (eaAbsolute addr) s)

/-- INC zp,X (0xF6; R280, R138). -/
def execIncZpX (zp : Byte) (s : State) : Result := finish 2 (Sem.inc (eaZeroPageX zp s) s)

/-- INC abs,X (0xFE; R280, R140). -/
def execIncAbsX (base : Word) (s : State) : Result := finish 3 (Sem.inc (eaAbsoluteX base s) s)

/-- DEC zp (0xC6; R281, R134). -/
def execDecZp (zp : Byte) (s : State) : Result := finish 2 (Sem.dec (eaZeroPage zp) s)

/-- DEC abs (0xCE; R281, R135). -/
def execDecAbs (addr : Word) (s : State) : Result := finish 3 (Sem.dec (eaAbsolute addr) s)

/-- DEC zp,X (0xD6; R281, R138). -/
def execDecZpX (zp : Byte) (s : State) : Result := finish 2 (Sem.dec (eaZeroPageX zp s) s)

/-- DEC abs,X (0xDE; R281, R140). -/
def execDecAbsX (base : Word) (s : State) : Result := finish 3 (Sem.dec (eaAbsoluteX base s) s)

/-- INX (0xE8; R282). -/
def execInx (s : State) : Result := finish 1 (Sem.inx s)

/-- INY (0xC8; R283). -/
def execIny (s : State) : Result := finish 1 (Sem.iny s)

/-- DEX (0xCA; R284). -/
def execDex (s : State) : Result := finish 1 (Sem.dex s)

/-- DEY (0x88; R285). -/
def execDey (s : State) : Result := finish 1 (Sem.dey s)

/-- NOP (0xEA; R290). -/
def execNop (s : State) : Result := finish 1 (Sem.nop s)

end Sys2Proof.Machine
end

