-- ==== Sys2Proof/Machine/LoadStore.lean ====
section
/-! DEFINITION. Load and store (41_load_store.md R150 to R155). -/

namespace Sys2Proof.Machine

/-- LDA of the operand value `m` (R150). -/
def Sem.lda (m : Byte) (s : State) : State := ({ s with a := m }).setNZ m

/-- LDX of `m` (R151). -/
def Sem.ldx (m : Byte) (s : State) : State := ({ s with x := m }).setNZ m

/-- LDY of `m` (R152). -/
def Sem.ldy (m : Byte) (s : State) : State := ({ s with y := m }).setNZ m

/-- STA to `ea` (R153): one write, no read of `ea` (40_sequencer_addressing.md R146). -/
def Sem.sta (ea : Word) (s : State) : State := s.write ea s.a

/-- STX to `ea` (R154). -/
def Sem.stx (ea : Word) (s : State) : State := s.write ea s.x

/-- STY to `ea` (R155). -/
def Sem.sty (ea : Word) (s : State) : State := s.write ea s.y

/-- LDA # (0xA9; R150, R133). -/
def execLdaImm (imm : Byte) (s : State) : Result := finish 2 (Sem.lda imm s)

/-- LDA zp (0xA5; R150, R134). -/
def execLdaZp (zp : Byte) (s : State) : Result := finish 2 (Sem.lda (s.read (eaZeroPage zp)) s)

/-- LDA abs (0xAD; R150, R135). -/
def execLdaAbs (addr : Word) (s : State) : Result := finish 3 (Sem.lda (s.read (eaAbsolute addr)) s)

/-- LDA (zp,X) (0xA1; R150, R142). -/
def execLdaIndX (zp : Byte) (s : State) : Result := finish 2 (Sem.lda (s.read (eaIndexedIndirectX zp s)) s)

/-- LDA (zp),Y (0xB1; R150, R143). -/
def execLdaIndY (zp : Byte) (s : State) : Result := finish 2 (Sem.lda (s.read (eaIndirectIndexedY zp s)) s)

/-- LDA zp,X (0xB5; R150, R138). -/
def execLdaZpX (zp : Byte) (s : State) : Result := finish 2 (Sem.lda (s.read (eaZeroPageX zp s)) s)

/-- LDA abs,Y (0xB9; R150, R141). -/
def execLdaAbsY (base : Word) (s : State) : Result := finish 3 (Sem.lda (s.read (eaAbsoluteY base s)) s)

/-- LDA abs,X (0xBD; R150, R140). -/
def execLdaAbsX (base : Word) (s : State) : Result := finish 3 (Sem.lda (s.read (eaAbsoluteX base s)) s)

/-- LDX # (0xA2; R151, R133). -/
def execLdxImm (imm : Byte) (s : State) : Result := finish 2 (Sem.ldx imm s)

/-- LDX zp (0xA6; R151, R134). -/
def execLdxZp (zp : Byte) (s : State) : Result := finish 2 (Sem.ldx (s.read (eaZeroPage zp)) s)

/-- LDX abs (0xAE; R151, R135). -/
def execLdxAbs (addr : Word) (s : State) : Result := finish 3 (Sem.ldx (s.read (eaAbsolute addr)) s)

/-- LDX zp,Y (0xB6; R151, R139). -/
def execLdxZpY (zp : Byte) (s : State) : Result := finish 2 (Sem.ldx (s.read (eaZeroPageY zp s)) s)

/-- LDX abs,Y (0xBE; R151, R141). -/
def execLdxAbsY (base : Word) (s : State) : Result := finish 3 (Sem.ldx (s.read (eaAbsoluteY base s)) s)

/-- LDY # (0xA0; R152, R133). -/
def execLdyImm (imm : Byte) (s : State) : Result := finish 2 (Sem.ldy imm s)

/-- LDY zp (0xA4; R152, R134). -/
def execLdyZp (zp : Byte) (s : State) : Result := finish 2 (Sem.ldy (s.read (eaZeroPage zp)) s)

/-- LDY abs (0xAC; R152, R135). -/
def execLdyAbs (addr : Word) (s : State) : Result := finish 3 (Sem.ldy (s.read (eaAbsolute addr)) s)

/-- LDY zp,X (0xB4; R152, R138). -/
def execLdyZpX (zp : Byte) (s : State) : Result := finish 2 (Sem.ldy (s.read (eaZeroPageX zp s)) s)

/-- LDY abs,X (0xBC; R152, R140). -/
def execLdyAbsX (base : Word) (s : State) : Result := finish 3 (Sem.ldy (s.read (eaAbsoluteX base s)) s)

/-- STA zp (0x85; R153, R134). -/
def execStaZp (zp : Byte) (s : State) : Result := finish 2 (Sem.sta (eaZeroPage zp) s)

/-- STA abs (0x8D; R153, R135). -/
def execStaAbs (addr : Word) (s : State) : Result := finish 3 (Sem.sta (eaAbsolute addr) s)

/-- STA (zp,X) (0x81; R153, R142). -/
def execStaIndX (zp : Byte) (s : State) : Result := finish 2 (Sem.sta (eaIndexedIndirectX zp s) s)

/-- STA (zp),Y (0x91; R153, R143). -/
def execStaIndY (zp : Byte) (s : State) : Result := finish 2 (Sem.sta (eaIndirectIndexedY zp s) s)

/-- STA zp,X (0x95; R153, R138). -/
def execStaZpX (zp : Byte) (s : State) : Result := finish 2 (Sem.sta (eaZeroPageX zp s) s)

/-- STA abs,Y (0x99; R153, R141). -/
def execStaAbsY (base : Word) (s : State) : Result := finish 3 (Sem.sta (eaAbsoluteY base s) s)

/-- STA abs,X (0x9D; R153, R140). -/
def execStaAbsX (base : Word) (s : State) : Result := finish 3 (Sem.sta (eaAbsoluteX base s) s)

/-- STX zp (0x86; R154, R134). -/
def execStxZp (zp : Byte) (s : State) : Result := finish 2 (Sem.stx (eaZeroPage zp) s)

/-- STX abs (0x8E; R154, R135). -/
def execStxAbs (addr : Word) (s : State) : Result := finish 3 (Sem.stx (eaAbsolute addr) s)

/-- STX zp,Y (0x96; R154, R139). -/
def execStxZpY (zp : Byte) (s : State) : Result := finish 2 (Sem.stx (eaZeroPageY zp s) s)

/-- STY zp (0x84; R155, R134). -/
def execStyZp (zp : Byte) (s : State) : Result := finish 2 (Sem.sty (eaZeroPage zp) s)

/-- STY abs (0x8C; R155, R135). -/
def execStyAbs (addr : Word) (s : State) : Result := finish 3 (Sem.sty (eaAbsolute addr) s)

/-- STY zp,X (0x94; R155, R138). -/
def execStyZpX (zp : Byte) (s : State) : Result := finish 2 (Sem.sty (eaZeroPageX zp s) s)

end Sys2Proof.Machine
end

