-- ==== Sys2Proof/Machine/Logic.lean ====
section
/-! DEFINITION. Logic and BIT (43_logic.md R180 to R183). -/

namespace Sys2Proof.Machine

/-- AND with the operand value `m` (R180): the flags follow the new A. -/
def Sem.and (m : Byte) (s : State) : State := ({ s with a := s.a &&& m }).setNZ (s.a &&& m)

/-- ORA (R181). -/
def Sem.ora (m : Byte) (s : State) : State := ({ s with a := s.a ||| m }).setNZ (s.a ||| m)

/-- EOR (R182). -/
def Sem.eor (m : Byte) (s : State) : State := ({ s with a := s.a ^^^ m }).setNZ (s.a ^^^ m)

/-- BIT (R183): A is unchanged. -/
def Sem.bit (m : Byte) (s : State) : State := s.bitTest m

/-- AND # (0x29; R180, R133). -/
def execAndImm (imm : Byte) (s : State) : Result := finish 2 (Sem.and imm s)

/-- AND zp (0x25; R180, R134). -/
def execAndZp (zp : Byte) (s : State) : Result := finish 2 (Sem.and (s.read (eaZeroPage zp)) s)

/-- AND abs (0x2D; R180, R135). -/
def execAndAbs (addr : Word) (s : State) : Result := finish 3 (Sem.and (s.read (eaAbsolute addr)) s)

/-- AND (zp,X) (0x21; R180, R142). -/
def execAndIndX (zp : Byte) (s : State) : Result := finish 2 (Sem.and (s.read (eaIndexedIndirectX zp s)) s)

/-- AND (zp),Y (0x31; R180, R143). -/
def execAndIndY (zp : Byte) (s : State) : Result := finish 2 (Sem.and (s.read (eaIndirectIndexedY zp s)) s)

/-- AND zp,X (0x35; R180, R138). -/
def execAndZpX (zp : Byte) (s : State) : Result := finish 2 (Sem.and (s.read (eaZeroPageX zp s)) s)

/-- AND abs,Y (0x39; R180, R141). -/
def execAndAbsY (base : Word) (s : State) : Result := finish 3 (Sem.and (s.read (eaAbsoluteY base s)) s)

/-- AND abs,X (0x3D; R180, R140). -/
def execAndAbsX (base : Word) (s : State) : Result := finish 3 (Sem.and (s.read (eaAbsoluteX base s)) s)

/-- ORA # (0x09; R181, R133). -/
def execOraImm (imm : Byte) (s : State) : Result := finish 2 (Sem.ora imm s)

/-- ORA zp (0x05; R181, R134). -/
def execOraZp (zp : Byte) (s : State) : Result := finish 2 (Sem.ora (s.read (eaZeroPage zp)) s)

/-- ORA abs (0x0D; R181, R135). -/
def execOraAbs (addr : Word) (s : State) : Result := finish 3 (Sem.ora (s.read (eaAbsolute addr)) s)

/-- ORA (zp,X) (0x01; R181, R142). -/
def execOraIndX (zp : Byte) (s : State) : Result := finish 2 (Sem.ora (s.read (eaIndexedIndirectX zp s)) s)

/-- ORA (zp),Y (0x11; R181, R143). -/
def execOraIndY (zp : Byte) (s : State) : Result := finish 2 (Sem.ora (s.read (eaIndirectIndexedY zp s)) s)

/-- ORA zp,X (0x15; R181, R138). -/
def execOraZpX (zp : Byte) (s : State) : Result := finish 2 (Sem.ora (s.read (eaZeroPageX zp s)) s)

/-- ORA abs,Y (0x19; R181, R141). -/
def execOraAbsY (base : Word) (s : State) : Result := finish 3 (Sem.ora (s.read (eaAbsoluteY base s)) s)

/-- ORA abs,X (0x1D; R181, R140). -/
def execOraAbsX (base : Word) (s : State) : Result := finish 3 (Sem.ora (s.read (eaAbsoluteX base s)) s)

/-- EOR # (0x49; R182, R133). -/
def execEorImm (imm : Byte) (s : State) : Result := finish 2 (Sem.eor imm s)

/-- EOR zp (0x45; R182, R134). -/
def execEorZp (zp : Byte) (s : State) : Result := finish 2 (Sem.eor (s.read (eaZeroPage zp)) s)

/-- EOR abs (0x4D; R182, R135). -/
def execEorAbs (addr : Word) (s : State) : Result := finish 3 (Sem.eor (s.read (eaAbsolute addr)) s)

/-- EOR (zp,X) (0x41; R182, R142). -/
def execEorIndX (zp : Byte) (s : State) : Result := finish 2 (Sem.eor (s.read (eaIndexedIndirectX zp s)) s)

/-- EOR (zp),Y (0x51; R182, R143). -/
def execEorIndY (zp : Byte) (s : State) : Result := finish 2 (Sem.eor (s.read (eaIndirectIndexedY zp s)) s)

/-- EOR zp,X (0x55; R182, R138). -/
def execEorZpX (zp : Byte) (s : State) : Result := finish 2 (Sem.eor (s.read (eaZeroPageX zp s)) s)

/-- EOR abs,Y (0x59; R182, R141). -/
def execEorAbsY (base : Word) (s : State) : Result := finish 3 (Sem.eor (s.read (eaAbsoluteY base s)) s)

/-- EOR abs,X (0x5D; R182, R140). -/
def execEorAbsX (base : Word) (s : State) : Result := finish 3 (Sem.eor (s.read (eaAbsoluteX base s)) s)

/-- BIT zp (0x24; R183, R134). -/
def execBitZp (zp : Byte) (s : State) : Result := finish 2 (Sem.bit (s.read (eaZeroPage zp)) s)

/-- BIT abs (0x2C; R183, R135). -/
def execBitAbs (addr : Word) (s : State) : Result := finish 3 (Sem.bit (s.read (eaAbsolute addr)) s)

end Sys2Proof.Machine
end

