-- ==== Sys2Proof/Machine/Shift.lean ====
section
/-! DEFINITION. Group SHIFT (48_optional_groups.md R270 to R274). -/

namespace Sys2Proof.Machine

/-- The result of ASL of `v` (R270). -/
def aslValue (v : Byte) : Byte := v <<< 1

/-- ASL A (R270). -/
def Sem.aslAcc (s : State) : State :=
  ({ s with a := aslValue s.a }).setCNZ (s.a.getLsbD 7) (aslValue s.a)

/-- ASL of the byte at `ea` (R270, R274): one read, one write. -/
def Sem.aslMem (ea : Word) (s : State) : State :=
  let v := s.read ea
  let r := aslValue v
  (s.setCNZ (v.getLsbD 7) r).write ea r

/-- The result of LSR of `v` (R271): bit 7 is 0, so N is 0. -/
def lsrValue (v : Byte) : Byte := v >>> 1

/-- LSR A (R271). -/
def Sem.lsrAcc (s : State) : State :=
  ({ s with a := lsrValue s.a }).setCNZ (s.a.getLsbD 0) (lsrValue s.a)

/-- LSR of the byte at `ea` (R271, R274): one read, one write. -/
def Sem.lsrMem (ea : Word) (s : State) : State :=
  let v := s.read ea
  let r := lsrValue v
  (s.setCNZ (v.getLsbD 0) r).write ea r

/-- The result of ROL of `v` (R272) with the carry from before. -/
def rolValue (v : Byte) (c : Bool) : Byte := (v <<< 1) ||| (if c then 0x01#8 else 0x00#8)

/-- ROL A (R272). -/
def Sem.rolAcc (s : State) : State :=
  ({ s with a := rolValue s.a s.flagC }).setCNZ (s.a.getLsbD 7) (rolValue s.a s.flagC)

/-- ROL of the byte at `ea` (R272, R274): one read, one write. -/
def Sem.rolMem (ea : Word) (s : State) : State :=
  let v := s.read ea
  let r := rolValue v s.flagC
  (s.setCNZ (v.getLsbD 7) r).write ea r

/-- The result of ROR of `v` (R273) with the carry from before. -/
def rorValue (v : Byte) (c : Bool) : Byte := (v >>> 1) ||| (if c then 0x80#8 else 0x00#8)

/-- ROR A (R273). -/
def Sem.rorAcc (s : State) : State :=
  ({ s with a := rorValue s.a s.flagC }).setCNZ (s.a.getLsbD 0) (rorValue s.a s.flagC)

/-- ROR of the byte at `ea` (R273, R274): one read, one write. -/
def Sem.rorMem (ea : Word) (s : State) : State :=
  let v := s.read ea
  let r := rorValue v s.flagC
  (s.setCNZ (v.getLsbD 0) r).write ea r

/-- ASL A (0x0A; R270, R132). -/
def execAslAcc (s : State) : Result := finish 1 (Sem.aslAcc s)

/-- ASL zp (0x06; R270, R134). -/
def execAslZp (zp : Byte) (s : State) : Result := finish 2 (Sem.aslMem (eaZeroPage zp) s)

/-- ASL abs (0x0E; R270, R135). -/
def execAslAbs (addr : Word) (s : State) : Result := finish 3 (Sem.aslMem (eaAbsolute addr) s)

/-- ASL zp,X (0x16; R270, R138). -/
def execAslZpX (zp : Byte) (s : State) : Result := finish 2 (Sem.aslMem (eaZeroPageX zp s) s)

/-- ASL abs,X (0x1E; R270, R140). -/
def execAslAbsX (base : Word) (s : State) : Result := finish 3 (Sem.aslMem (eaAbsoluteX base s) s)

/-- LSR A (0x4A; R271, R132). -/
def execLsrAcc (s : State) : Result := finish 1 (Sem.lsrAcc s)

/-- LSR zp (0x46; R271, R134). -/
def execLsrZp (zp : Byte) (s : State) : Result := finish 2 (Sem.lsrMem (eaZeroPage zp) s)

/-- LSR abs (0x4E; R271, R135). -/
def execLsrAbs (addr : Word) (s : State) : Result := finish 3 (Sem.lsrMem (eaAbsolute addr) s)

/-- LSR zp,X (0x56; R271, R138). -/
def execLsrZpX (zp : Byte) (s : State) : Result := finish 2 (Sem.lsrMem (eaZeroPageX zp s) s)

/-- LSR abs,X (0x5E; R271, R140). -/
def execLsrAbsX (base : Word) (s : State) : Result := finish 3 (Sem.lsrMem (eaAbsoluteX base s) s)

/-- ROL A (0x2A; R272, R132). -/
def execRolAcc (s : State) : Result := finish 1 (Sem.rolAcc s)

/-- ROL zp (0x26; R272, R134). -/
def execRolZp (zp : Byte) (s : State) : Result := finish 2 (Sem.rolMem (eaZeroPage zp) s)

/-- ROL abs (0x2E; R272, R135). -/
def execRolAbs (addr : Word) (s : State) : Result := finish 3 (Sem.rolMem (eaAbsolute addr) s)

/-- ROL zp,X (0x36; R272, R138). -/
def execRolZpX (zp : Byte) (s : State) : Result := finish 2 (Sem.rolMem (eaZeroPageX zp s) s)

/-- ROL abs,X (0x3E; R272, R140). -/
def execRolAbsX (base : Word) (s : State) : Result := finish 3 (Sem.rolMem (eaAbsoluteX base s) s)

/-- ROR A (0x6A; R273, R132). -/
def execRorAcc (s : State) : Result := finish 1 (Sem.rorAcc s)

/-- ROR zp (0x66; R273, R134). -/
def execRorZp (zp : Byte) (s : State) : Result := finish 2 (Sem.rorMem (eaZeroPage zp) s)

/-- ROR abs (0x6E; R273, R135). -/
def execRorAbs (addr : Word) (s : State) : Result := finish 3 (Sem.rorMem (eaAbsolute addr) s)

/-- ROR zp,X (0x76; R273, R138). -/
def execRorZpX (zp : Byte) (s : State) : Result := finish 2 (Sem.rorMem (eaZeroPageX zp s) s)

/-- ROR abs,X (0x7E; R273, R140). -/
def execRorAbsX (base : Word) (s : State) : Result := finish 3 (Sem.rorMem (eaAbsoluteX base s) s)

end Sys2Proof.Machine
end

