-- ==== Sys2Proof/Machine/Stack.lean ====
section
/-! DEFINITION. Stack instructions (46_stack.md R242 to R246). -/

namespace Sys2Proof.Machine

/-- PHA (R242). -/
def Sem.pha (s : State) : State := s.push s.a

/-- PLA (R243): Z and N are written only where PLA_SETS_NZ says so. -/
def Sem.pla (s : State) : State :=
  let pulled := { s.pull.2 with a := s.pull.1 }
  if s.cfg.plaSetsNZ then pulled.setNZ s.pull.1 else pulled

/-- PHP (R244): the status byte as stored, bit 5 = 0. -/
def Sem.php (s : State) : State := s.push s.statusByte

/-- PLP (R245). -/
def Sem.plp (s : State) : State := s.pull.2.loadP s.pull.1

/-- PHA (0x48; R242). -/
def execPha (s : State) : Result := finish 1 (Sem.pha s)

/-- PLA (0x68; R243). -/
def execPla (s : State) : Result := finish 1 (Sem.pla s)

/-- PHP (0x08; R244). -/
def execPhp (s : State) : Result := finish 1 (Sem.php s)

/-- PLP (0x28; R245). -/
def execPlp (s : State) : Result := finish 1 (Sem.plp s)

end Sys2Proof.Machine
end

