-- ==== Sys2Proof/Machine/Transfer.lean ====
section
/-! DEFINITION. Register transfers (42_transfer.md R170 to R175). -/

namespace Sys2Proof.Machine

/-- TAX (R170). -/
def Sem.tax (s : State) : State := ({ s with x := s.a }).setNZ s.a

/-- TAY (R171). -/
def Sem.tay (s : State) : State := ({ s with y := s.a }).setNZ s.a

/-- TSX (R172). -/
def Sem.tsx (s : State) : State := ({ s with x := s.sp }).setNZ s.sp

/-- TXA (R173). -/
def Sem.txa (s : State) : State := ({ s with a := s.x }).setNZ s.x

/-- TXS (R174): no flag. -/
def Sem.txs (s : State) : State := { s with sp := s.x }

/-- TYA (R175). -/
def Sem.tya (s : State) : State := ({ s with a := s.y }).setNZ s.y

/-- TAX (0xAA; R170). -/
def execTax (s : State) : Result := finish 1 (Sem.tax s)

/-- TAY (0xA8; R171). -/
def execTay (s : State) : Result := finish 1 (Sem.tay s)

/-- TSX (0xBA; R172). -/
def execTsx (s : State) : Result := finish 1 (Sem.tsx s)

/-- TXA (0x8A; R173). -/
def execTxa (s : State) : Result := finish 1 (Sem.txa s)

/-- TXS (0x9A; R174). -/
def execTxs (s : State) : Result := finish 1 (Sem.txs s)

/-- TYA (0x98; R175). -/
def execTya (s : State) : Result := finish 1 (Sem.tya s)

end Sys2Proof.Machine
end

