-- ==== Sys2Proof/Machine/Step.lean ====
section
/-! DEFINITION. One step (40_sequencer_addressing.md R120, R121; 60_exceptions.md R303), and the placing of an
instruction where the next step fetches it. -/

namespace Sys2Proof.Machine

/-- One step: no step while the fault latch is set (60_exceptions.md R303); else the instruction at PC is fetched and
executed, or, its opcode being absent, InvalidOpcode is raised (40_sequencer_addressing.md R121). -/
def step (s : State) : Host.Outcome State Fault Refusal :=
  match s.fault with
  | some r => .fault (.halted r.opcode r.pc)
  | none =>
    match s.fetch with
    | some i => exec i s
    | none => .fault (.invalidOpcode (s.read s.pc) s.pc)

/-- The state with an instruction word placed where `step` fetches next (log entry 6). -/
def State.withFetchWord (s : State) (nbits w : Nat) : State := s.placeWord nbits w

end Sys2Proof.Machine
end

