-- ==== Sys2Proof/Machine/Bus.lean ====
section
/-! DEFINITION. The bus transactions of a step (20_memory.md R71, R72; 40_sequencer_addressing.md R124, R144, R145;
48_optional_groups.md R274) as a function of the instruction and the state before it. `step` itself reads and writes
the memory function directly, which R71 calls equivalent; these lists say which accesses a step makes, in which order. -/

namespace Sys2Proof.Machine

/-- A bus transaction (R71): a read answers `data`, a write stores it. -/
inductive Transaction where
  | read (addr : Word) (data : Byte)
  | write (addr : Word) (data : Byte)
deriving DecidableEq, Repr

/-- A read of `addr` in state `s`. -/
def State.busRead (s : State) (addr : Word) : Transaction := .read addr (s.read addr)

/-- Phases F and O (R124): the opcode, then the operand bytes, in address order. -/
def fetchReads (i : Instr) (s : State) : List Transaction :=
  (List.range i.length).map fun k => s.busRead (s.pc + BitVec.ofNat 16 k)

/-- Phase A (R124): the pointer reads of the mode, low byte first (40_sequencer_addressing.md R137, R142, R143). -/
def pointerReads (i : Instr) (s : State) : List Transaction :=
  match i.mode with
  | .indirect => [s.busRead (wordOf i.byte2 i.byte1), s.busRead (pointerHighAddr (wordOf i.byte2 i.byte1))]
  | .indexedIndirectX => [s.busRead (zext16 (i.byte1 + s.x)), s.busRead (zext16 (i.byte1 + s.x + 1))]
  | .indirectIndexedY => [s.busRead (zext16 i.byte1), s.busRead (zext16 (i.byte1 + 1))]
  | .implied | .accumulator | .immediate | .zeroPage | .relative | .absolute
  | .zeroPageX | .zeroPageY | .absoluteX | .absoluteY => []

/-- The byte a read-modify-write instruction writes back for the byte `v` and carry `c` (48_optional_groups.md). -/
def modifiedValue (m : Mnemonic) (v : Byte) (c : Bool) : Byte :=
  match m with
  | .asl => aslValue v
  | .lsr => lsrValue v
  | .rol => rolValue v c
  | .ror => rorValue v c
  | .inc => v + 1
  | .dec => v - 1
  | _ => v

/-- Phases R and W (R124) of the instructions with a memory operand: the data read, the write, or both. -/
def dataAccesses (i : Instr) (s : State) : List Transaction :=
  match operandOf i s, operandClass i.mnemonic with
  | .address ea, .read => [s.busRead ea]
  | .address ea, .write =>
    [.write ea (match i.mnemonic with
      | .stx => s.x
      | .sty => s.y
      | _ => s.a)]
  | .address ea, .modify => [s.busRead ea, .write ea (modifiedValue i.mnemonic (s.read ea) s.flagC)]
  | _, _ => []

/-- The write of a push at stack pointer `sp` (46_stack.md R240). -/
def pushWrite (sp v : Byte) : Transaction := .write (stackAddr sp) v

/-- The stack and vector accesses of phase X (R124), in the order the instruction's rule lists them. -/
def stackAccesses (i : Instr) (s : State) : List Transaction :=
  match i.mnemonic with
  | .pha => [pushWrite s.sp s.a]
  | .php => [pushWrite s.sp s.statusByte]
  | .pla | .plp => [s.busRead (stackAddr (s.sp + 1))]
  | .jsr => [pushWrite s.sp (hiByte (s.pc + 2)), pushWrite (s.sp - 1) (loByte (s.pc + 2))]
  | .rts => [s.busRead (stackAddr (s.sp + 1)), s.busRead (stackAddr (s.sp + 2))]
  | .rti => [s.busRead (stackAddr (s.sp + 1)), s.busRead (stackAddr (s.sp + 2)), s.busRead (stackAddr (s.sp + 3))]
  | .brk =>
    match s.cfg.brkMode with
    | .marker => []
    | .interrupt =>
      [pushWrite s.sp (hiByte (s.pc + 2)), pushWrite (s.sp - 1) (loByte (s.pc + 2)),
        pushWrite (s.sp - 2) ({ s with flagB := true }).statusByte,
        s.busRead brkVector, s.busRead (brkVector + 1)]
  | _ => []

/-- The transactions of executing `i` in `s`, in order (R72). -/
def transactions (i : Instr) (s : State) : List Transaction :=
  fetchReads i s ++ pointerReads i s ++ dataAccesses i s ++ stackAccesses i s

/-- The transactions of one step: none while the fault latch is set, the opcode read alone where the opcode is absent
(60_exceptions.md R302), else those of the instruction. -/
def stepTransactions (s : State) : List Transaction :=
  match s.fault with
  | some _ => []
  | none =>
    match s.fetch with
    | some i => transactions i s
    | none => [s.busRead s.pc]

/-- A memory that serves the transactions in order: none where a read's data is not what the memory then holds, else
the memory after the writes. -/
def replay : Mem → List Transaction → Option Mem
  | m, [] => some m
  | m, .read addr data :: ts => if Mem.read m addr.toNat = data then replay m ts else none
  | m, .write addr data :: ts => replay (Mem.write m addr.toNat data) ts

end Sys2Proof.Machine
end

