-- ==== Sys2Proof/Machine/Session.lean ====
section
/-! DEFINITION. The host's operations on the core (70_reset_and_hazards.md R340 to R352), as functions the host applies
between steps (20_memory.md R73). They stand outside `step`: the core makes none of them itself. -/

namespace Sys2Proof.Machine

/-- `reset()` (R340) of a core in any state: the configuration is fixed for the instance's lifetime (00_scope.md R7;
DEDUCED, log entry 9), all else takes its reset value. -/
def State.resetCore (s : State) : State := { State.reset with cfg := s.cfg }

/-- Why a load fails (R346). -/
inductive LoadError where
  | programTooLarge
deriving DecidableEq, Repr

/-- `load_program(bytes, base)` (R345, R346): all or nothing; PC is set to `base`. -/
def State.loadProgram (s : State) (bytes : List Byte) (base : Word) : Except LoadError State :=
  if base.toNat + bytes.length > 65536 then .error .programTooLarge
  else .ok { s.storeBytes base bytes with pc := base }

/-- `load_program(bytes)` at the default base LOAD_BASE (R345). -/
def State.loadDefault (s : State) (bytes : List Byte) : Except LoadError State :=
  s.loadProgram bytes s.cfg.loadBase

/-- `read_memory(addr)` (R348). -/
def State.readMemory (s : State) (addr : Word) : Byte := s.read addr

/-- A write through the raw buffer view (R348): like a store. -/
def State.pokeMemory (s : State) (addr : Word) (v : Byte) : State := s.write addr v

/-- The snapshot `state()` returns (R351): the fault latch is not in it. -/
structure Snapshot where
  a      : Byte
  x      : Byte
  y      : Byte
  sp     : Byte
  pc     : Word
  status : Byte
deriving DecidableEq, Repr

/-- `state()` (R351). -/
def State.snapshot (s : State) : Snapshot :=
  { a := s.a, x := s.x, y := s.y, sp := s.sp, pc := s.pc, status := s.statusByte }

/-- Why `tick` or `run_until_break` stops early. The core refuses nothing, so the second never occurs. -/
inductive Failure where
  | fault (f : Fault)
  | refused (r : Refusal)
deriving DecidableEq, Repr

/-- `execute_one` with its committed state (60_exceptions.md R301): the next state, or the latched state and the
failure. -/
def State.executeOne (s : State) : State × Option Failure :=
  match step s with
  | .next t => (t, none)
  | .fault f => (s.afterFault f, some (.fault f))
  | .refused r => (s, some (.refused r))

/-- `tick(n)` (R349): up to `n` steps; the count, or the failure that stopped it, with the state. -/
def State.tick : Nat → State → State × Except Failure Nat
  | 0, s => (s, .ok 0)
  | n + 1, s =>
    match s.executeOne with
    | (t, none) =>
      match State.tick n t with
      | (u, .ok k) => (u, .ok (k + 1))
      | (u, .error f) => (u, .error f)
    | (t, some f) => (t, .error f)

/-- How a run ends (R352). -/
inductive RunEnd where
  | breakEnd
  | faultEnd (f : Failure)
  | budgetEnd
deriving DecidableEq, Repr

/-- `run_until_break()` (R350) within a budget of steps (DESIGN CHOICE, log entry 10: the spec's has no timeout): the
host reads the opcode about to be executed and stops after executing 0x00, or at a failure. -/
def State.runUntilBreak : Nat → State → State × RunEnd
  | 0, s => (s, .budgetEnd)
  | n + 1, s =>
    match s.executeOne with
    | (t, none) => if s.read s.pc = 0x00#8 then (t, .breakEnd) else State.runUntilBreak n t
    | (t, some f) => (t, .faultEnd f)

end Sys2Proof.Machine
end

