-- ==== Sys2Proof/WellFormed.lean ====
section
/-! DEFINITION. When an instruction is well-formed under a configuration: its opcode group is present
(30_encoding.md R95 to R101). The constructors of Instr carry nothing else that could be ill-formed: every operand
byte is admitted (30_encoding.md R112). -/

namespace Sys2Proof

/-- The check of G_SHIFT: an instruction of SHIFT or IDX+SHIFT needs it (R97, R100). -/
def Instr.shiftOk (cfg : Config) (i : Instr) : Bool :=
  match i.group with
  | .shift | .idxShift => cfg.gShift
  | .core | .incdec | .nop | .idx | .idxIncdec => true

/-- The check of G_INCDEC: an instruction of INCDEC or IDX+INCDEC needs it (R98, R100). -/
def Instr.incdecOk (cfg : Config) (i : Instr) : Bool :=
  match i.group with
  | .incdec | .idxIncdec => cfg.gIncdec
  | .core | .shift | .nop | .idx | .idxShift => true

/-- The check of G_NOP (R99). -/
def Instr.nopOk (cfg : Config) (i : Instr) : Bool :=
  match i.group with
  | .nop => cfg.gNop
  | .core | .shift | .incdec | .idx | .idxShift | .idxIncdec => true

/-- The check of G_IDX: an instruction of IDX, IDX+SHIFT or IDX+INCDEC needs it (R100). -/
def Instr.idxOk (cfg : Config) (i : Instr) : Bool :=
  match i.group with
  | .idx | .idxShift | .idxIncdec => cfg.gIdx
  | .core | .shift | .incdec | .nop => true

/-- An instruction is well-formed under a configuration when its row is present in the configured dispatch table. -/
def Instr.wellFormed (cfg : Config) (i : Instr) : Bool :=
  i.shiftOk cfg && i.incdecOk cfg && i.nopOk cfg && i.idxOk cfg

end Sys2Proof
end

