-- ==== Sys2Proof/Safety.lean ====
section
/-! DEFINITION. The terms the statements use: the state invariants, the states a core and its host can reach, the
addresses an instruction stores to, and the spec's lists of which instructions write what (10_state.md R36, R49). -/

namespace Sys2Proof.Machine

/-- The invariant of the state: memory is in its canonical form (log entry 5). -/
def State.Inv (s : State) : Prop := Mem.wf s.mem = true

/-- A sound state: memory is canonical, and a set fault latch holds an opcode byte that is absent under the state's
configuration (60_exceptions.md R300, R308). -/
def State.Sound (s : State) : Prop :=
  s.Inv ∧ ∀ r : FaultRecord, s.fault = some r → opcodeAbsent s.cfg r.opcode = true

/-- None of the first `k` states of the run from `s` has the opcode 0x00 at PC: the states before the `k`-th. -/
def State.noBreakBefore (s : State) (k : Nat) : Prop :=
  ∀ (j : Nat) (w : State), j < k → Host.Core.run core j s = .next w → w.read w.pc ≠ 0x00#8

/-- The states of a core with configuration `cfg` and its host: from reset, by loads, raw writes, steps, and the
latching of a fault (70_reset_and_hazards.md R344, R348, R352). -/
inductive Reachable (cfg : Config) : State → Prop where
  | initial : Reachable cfg { State.reset with cfg := cfg }
  | load (s t : State) (bytes : List Byte) (base : Word) :
      Reachable cfg s → s.loadProgram bytes base = .ok t → Reachable cfg t
  | poke (s : State) (addr : Word) (v : Byte) : Reachable cfg s → Reachable cfg (s.pokeMemory addr v)
  | step (s t : State) : Reachable cfg s → step s = .next t → Reachable cfg t
  | fault (s : State) (f : Fault) : Reachable cfg s → step s = .fault f → Reachable cfg (s.afterFault f)
  | reset (s : State) : Reachable cfg s → Reachable cfg s.resetCore

/-- The addresses an instruction stores to, computed as its meaning computes them: the effective address of the store
and read-modify-write instructions, the stack bytes of the pushes, else none. -/
def storedAddresses (i : Instr) (s : State) : List Word :=
  match i.mnemonic with
  | .sta | .stx | .sty => [effectiveAddress i s]
  | .asl | .lsr | .rol | .ror | .inc | .dec =>
    if i.mode = .accumulator then [] else [effectiveAddress i s]
  | .pha | .php => [stackAddr s.sp]
  | .jsr => [stackAddr s.sp, stackAddr (s.sp - 1)]
  | .brk =>
    match s.cfg.brkMode with
    | .interrupt => [stackAddr s.sp, stackAddr (s.sp - 1), stackAddr (s.sp - 2)]
    | .marker => []
  | _ => []

/-- The writers of A (10_state.md R31, R49). -/
def writersOfA : List Mnemonic := [.lda, .txa, .tya, .and, .ora, .eor, .adc, .sbc, .pla]

/-- The shifts, which write A in Accumulator mode only (10_state.md R31, R49). -/
def shiftMnemonics : List Mnemonic := [.asl, .lsr, .rol, .ror]

/-- The writers of X (10_state.md R32, R49). -/
def writersOfX : List Mnemonic := [.ldx, .tax, .tsx, .inx, .dex]

/-- The writers of Y (10_state.md R33, R49). -/
def writersOfY : List Mnemonic := [.ldy, .tay, .iny, .dey]

/-- The writers of SP (10_state.md R34, R49). -/
def writersOfSP : List Mnemonic := [.txs, .pha, .pla, .php, .plp, .jsr, .rts, .rti, .brk]

/-- The writers of N (10_state.md R36); PLA only with PLA_SETS_NZ. -/
def writersOfN : List Mnemonic :=
  [.lda, .ldx, .ldy, .tax, .tay, .tsx, .txa, .tya, .and, .ora, .eor, .bit, .cmp, .cpx, .cpy, .adc, .sbc, .plp, .rti,
    .asl, .lsr, .rol, .ror, .inc, .dec, .inx, .iny, .dex, .dey]

/-- The writers of Z: those of N (10_state.md R36). -/
def writersOfZ : List Mnemonic := writersOfN

/-- The writers of V (10_state.md R36). -/
def writersOfV : List Mnemonic := [.adc, .sbc, .bit, .clv, .plp, .rti]

/-- The writers of B (10_state.md R36); BRK only in Interrupt mode. -/
def writersOfB : List Mnemonic := [.plp, .rti]

/-- The writers of D (10_state.md R36). -/
def writersOfD : List Mnemonic := [.cld, .sed, .plp, .rti]

/-- The writers of I (10_state.md R36); BRK only in Interrupt mode. -/
def writersOfI : List Mnemonic := [.cli, .sei, .plp, .rti]

/-- The writers of C (10_state.md R36). -/
def writersOfC : List Mnemonic :=
  [.cmp, .cpx, .cpy, .adc, .sbc, .clc, .sec, .plp, .rti, .asl, .lsr, .rol, .ror]

end Sys2Proof.Machine
end

