-- ==== Sys2Proof/Certificates/Slice0/Obligations.lean ====
section
/-! DEFINITION. The statements about the core for the provers, one `def Obligations.<Name> : Prop` each, listed in
OBLIGATIONS.json. A docstring names the rules of spec/ a statement formalises, and where a clause rests on a decision
of the spec's own (92_eei_decisions.md), on general knowledge the spec marks as such, or on the model's choice. -/

open Sys2Proof Sys2Proof.Machine

/-- Decoding an encoded well-formed instruction gives it back, for all 151 instructions. R90 to R94, R103: no bit of
an encoding is dropped. -/
def Obligations.DecodeInvertsEncode : Prop :=
  ∀ (cfg : Config) (i : Instr) (rest : List Byte), i.wellFormed cfg = true →
    decode cfg (encode i ++ rest) = .ok (i, rest)

/-- What the decoder accepts is an encoded well-formed instruction, of the length its opcode gives. R94, R103: each
byte string has at most one meaning, and no configuration-dependent reading (R104). -/
def Obligations.DecodeAcceptsOnlyEncodings : Prop :=
  ∀ (cfg : Config) (bytes rest : List Byte) (i : Instr), decode cfg bytes = .ok (i, rest) →
    i.wellFormed cfg = true ∧ bytes = encode i ++ rest ∧
      bytes.length = (1 + i.mode.operandBytes) + rest.length

/-- Which opcode bytes are absent, and that one at PC raises InvalidOpcode. R101. -/
def Obligations.AbsentOpcodesAreTheListedOnes : Prop :=
  (∀ (cfg : Config) (op : Byte), opcodeAbsent cfg op = true ↔
      ¬ ∃ i : Instr, i.wellFormed cfg = true ∧ i.opcode = op) ∧
  (∀ op : Byte, (∀ cfg : Config, opcodeAbsent cfg op = true) ↔ op ∈ ([
    0x02#8, 0x03#8, 0x04#8, 0x07#8, 0x0B#8, 0x0C#8, 0x0F#8, 0x12#8, 0x13#8, 0x14#8, 0x17#8, 0x1A#8, 0x1B#8, 0x1C#8,
    0x1F#8, 0x22#8, 0x23#8, 0x27#8, 0x2B#8, 0x2F#8, 0x32#8, 0x33#8, 0x34#8, 0x37#8, 0x3A#8, 0x3B#8, 0x3C#8, 0x3F#8,
    0x42#8, 0x43#8, 0x44#8, 0x47#8, 0x4B#8, 0x4F#8, 0x52#8, 0x53#8, 0x54#8, 0x57#8, 0x5A#8, 0x5B#8, 0x5C#8, 0x5F#8,
    0x62#8, 0x63#8, 0x64#8, 0x67#8, 0x6B#8, 0x6F#8, 0x72#8, 0x73#8, 0x74#8, 0x77#8, 0x7A#8, 0x7B#8, 0x7C#8, 0x7F#8,
    0x80#8, 0x82#8, 0x83#8, 0x87#8, 0x89#8, 0x8B#8, 0x8F#8, 0x92#8, 0x93#8, 0x97#8, 0x9B#8, 0x9C#8, 0x9E#8, 0x9F#8,
    0xA3#8, 0xA7#8, 0xAB#8, 0xAF#8, 0xB2#8, 0xB3#8, 0xB7#8, 0xBB#8, 0xBF#8, 0xC2#8, 0xC3#8, 0xC7#8, 0xCB#8, 0xCF#8,
    0xD2#8, 0xD3#8, 0xD4#8, 0xD7#8, 0xDA#8, 0xDB#8, 0xDC#8, 0xDF#8, 0xE2#8, 0xE3#8, 0xE7#8, 0xEB#8, 0xEF#8, 0xF2#8,
    0xF3#8, 0xF4#8, 0xF7#8, 0xFA#8, 0xFB#8, 0xFC#8, 0xFF#8] : List Byte)) ∧
  ((List.range 256).filter fun n => opcodeAbsent Config.default (BitVec.ofNat 8 n)).length = 172 ∧
  ((List.range 256).filter fun n => opcodeAbsent Config.full (BitVec.ofNat 8 n)).length = 105 ∧
  (∀ s : State, s.fault = none → opcodeAbsent s.cfg (s.read s.pc) = true →
      step s = .fault (.invalidOpcode (s.read s.pc) s.pc))

/-- A few words written from the opcode map decode to their instructions. R95: the opcode bytes other than 0xA9,
0xAD, 0x4C and 0x00 are the spec's decision D5 (R106). -/
def Obligations.SampleWordsDecode : Prop :=
  decodeTableWord 16 0x01A9 = some (.ldaImm 0x01#8) ∧
  decodeTableWord 24 0x0200AD = some (.ldaAbs 0x0200#16) ∧
  decodeTableWord 16 0xFF91 = some (.staIndY 0xFF#8) ∧
  decodeTableWord 16 0x1055 = some (.eorZpX 0x10#8) ∧
  decodeTableWord 16 0xF0D0 = some (.bne 0xF0#8) ∧
  decodeTableWord 24 0x02FF6C = some (.jmpInd 0x02FF#16) ∧
  decodeTableWord 24 0x070020 = some (.jsr 0x0700#16) ∧
  decodeTableWord 8 0x00 = some .brk ∧
  decodeTableWord 8 0x6A = some .rorAcc ∧
  decodeTableWord 24 0x1234DE = some (.decAbsX 0x1234#16) ∧
  decodeTableWord 8 0xEA = some .nop ∧
  decodeTableWord 8 0x02 = none

/-- A step is exec of the instruction that the bytes at PC decode to, with nothing around it. R120: fetch, decode,
execute. R123 (decision D13): addresses wrap at 65536. -/
def Obligations.StepRunsTheDecodedInstruction : Prop :=
  ∀ (s : State) (i : Instr) (rest : List Byte), s.fault = none →
    decode s.cfg [s.read s.pc, s.read (s.pc + 1), s.read (s.pc + 2)] = .ok (i, rest) →
    step s = exec i s

/-- A step runs the well-formed instruction whose encoding stands at PC. R120, R90; R123 (decision D13). -/
def Obligations.StepRunsTheEncodedInstruction : Prop :=
  ∀ (s : State) (i : Instr), s.fault = none → i.wellFormed s.cfg = true →
    (∀ k : Nat, k < i.length → (encode i)[k]? = some (s.read (s.pc + BitVec.ofNat 16 k))) →
    step s = exec i s

/-- With the latch clear a step ends in a next state exactly if the opcode is present, else in InvalidOpcode. R15.
-/
def Obligations.StepHasTwoOutcomes : Prop :=
  ∀ s : State, s.fault = none →
    (opcodeAbsent s.cfg (s.read s.pc) = false ∧ ∃ t : State, step s = .next t) ∨
    (opcodeAbsent s.cfg (s.read s.pc) = true ∧ step s = .fault (.invalidOpcode (s.read s.pc) s.pc))

/-- InvalidOpcode changes nothing but the fault latch (decision D16). R300 to R302, R308: the spec's decision D16
("no state changes and PC stays at the opcode. A sticky fault latch is set"). Log entry 3: the latch is set by what
the host's execute_one commits. -/
def Obligations.InvalidOpcodeIsPrecise : Prop :=
  ∀ s : State, s.fault = none → opcodeAbsent s.cfg (s.read s.pc) = true →
    step s = .fault (.invalidOpcode (s.read s.pc) s.pc) ∧
    Fault.code (.invalidOpcode (s.read s.pc) s.pc) = 1 ∧
    s.executeOne = ({ s with fault := some { opcode := s.read s.pc, pc := s.pc } },
      some (.fault (.invalidOpcode (s.read s.pc) s.pc)))

/-- While the fault latch is set the core takes no step, however often it is asked (decision D16). R303: the spec's
decision D16 ("the core takes no step until reset, which clears the latch"). Log entry 4: halted is the model's name
for it. -/
def Obligations.LatchedFaultIsSticky : Prop :=
  ∀ (s : State) (r : FaultRecord) (n : Nat), s.fault = some r →
    step s = .fault (.halted r.opcode r.pc) ∧
    State.tick (n + 1) s = (s, .error (.fault (.halted r.opcode r.pc))) ∧
    s.resetCore.fault = none

/-- exec answers a next state for every instruction in every state. R127, R304: every constructor of Instr is
covered. -/
def Obligations.EveryInstructionCompletes : Prop :=
  ∀ (i : Instr) (s : State), ∃ t : State, exec i s = .next t

/-- Reset sets every register, flag and memory byte to the value the spec gives. R46, R340: all but the latch's
value are the document's; the latch's is decision D16; that reset keeps the configuration is DEDUCED (log entry 9).
-/
def Obligations.ResetLeavesTheStatedValues : Prop :=
  ∀ (s : State) (addr : Word),
    (∀ t : State, t = State.reset ∨ t = s.resetCore →
      t.a = 0x00#8 ∧ t.x = 0x00#8 ∧ t.y = 0x00#8 ∧ t.sp = 0xFF#8 ∧ t.pc = 0x0000#16 ∧
      t.flagN = false ∧ t.flagV = false ∧ t.flagB = false ∧ t.flagD = false ∧ t.flagI = false ∧
      t.flagZ = false ∧ t.flagC = false ∧ t.statusByte = 0x00#8 ∧ t.read addr = 0x00#8 ∧ t.fault = none) ∧
    s.resetCore.cfg = s.cfg

/-- Every step keeps memory in its canonical form, from every state that has it. The model's canonical form (DESIGN
CHOICE, log entry 5) of the memory of R60: equal memories are equal data. -/
def Obligations.StepKeepsMemoryCanonical : Prop :=
  ∀ s t : State, s.Inv → step s = .next t → t.Inv

/-- The state after reset meets the invariants, in every configuration. The canonical form is log entry 5, the latch
the spec's decision D16, and that reset leaves the configuration log entry 9. -/
def Obligations.ResetMemoryIsCanonical : Prop :=
  State.reset.Inv ∧ State.reset.Sound ∧ ∀ s : State, s.resetCore.Inv ∧ s.resetCore.Sound

/-- No step and no host operation changes the configuration. R7. That the record rides in the state is log entry 1.
-/
def Obligations.ConfigurationNeverChanges : Prop :=
  ∀ s t : State,
    (step s = .next t → t.cfg = s.cfg) ∧
    (∀ (bytes : List Byte) (base : Word), s.loadProgram bytes base = .ok t → t.cfg = s.cfg) ∧
    (∀ (addr : Word) (v : Byte), (s.pokeMemory addr v).cfg = s.cfg) ∧
    s.resetCore.cfg = s.cfg ∧ (∀ f : Fault, (s.afterFault f).cfg = s.cfg)

/-- A step that answers a next state had the latch clear and leaves it clear (decision D16). R44, R303: the spec's
decision D16 ("once set it is never cleared by a step, only by reset"). -/
def Obligations.NextStateHasLatchClear : Prop :=
  (∀ s t : State, step s = .next t → s.fault = none ∧ t.fault = none) ∧
  (∀ (i : Instr) (s t : State), exec i s = .next t → t.fault = s.fault)

/-- Every state a core and its host can reach is canonical, keeps its configuration, and latches only absent
opcodes (decision D16). Over every run of the core and its host (R344, R348, R352). The latch is the spec's decision
D16; that the configuration stays is R7, by log entries 1 (the record rides in the state) and 9 (reset keeps it); the
canonical form is log entry 5. -/
def Obligations.ReachableStatesAreSound : Prop :=
  ∀ (cfg : Config) (s : State), Reachable cfg s →
    s.Inv ∧ s.cfg = cfg ∧ ∀ r : FaultRecord, s.fault = some r → opcodeAbsent cfg r.opcode = true

/-- Every transition of the core and every operation of its host keeps a state sound and its configuration, from every
sound state (decision D16). The latch is the spec's decision D16; that the configuration stays is R7, by log entries 1
and 9; the canonical form is log entry 5. -/
def Obligations.EveryTransitionKeepsTheStateSound : Prop :=
  ∀ s : State, s.Sound →
    (∀ t : State, step s = .next t → t.Sound ∧ t.cfg = s.cfg) ∧
    (∀ f : Fault, step s = .fault f → (s.afterFault f).Sound ∧ (s.afterFault f).cfg = s.cfg) ∧
    (∀ (t : State) (bytes : List Byte) (base : Word), s.loadProgram bytes base = .ok t → t.Sound ∧ t.cfg = s.cfg) ∧
    (∀ (addr : Word) (v : Byte), (s.pokeMemory addr v).Sound ∧ (s.pokeMemory addr v).cfg = s.cfg) ∧
    s.resetCore.Sound ∧ s.resetCore.cfg = s.cfg

/-- A byte written is the byte read, at every address, and no other byte changes. R60. -/
def Obligations.MemoryIsTotal : Prop :=
  ∀ (s : State) (a b : Word) (v : Byte),
    (s.write a v).read a = v ∧
    (b ≠ a → (s.write a v).read b = s.read b) ∧
    (∃ m : Mem, s.write a v = { s with mem := m }) ∧
    (s.write 0xFFFF#16 v).read 0xFFFF#16 = v

/-- Two canonical memories that read the same everywhere are the same list. The model's canonical form (DESIGN
CHOICE, log entry 5) loses nothing of the memory of R60. -/
def Obligations.EqualMemoriesAreEqualData : Prop :=
  ∀ s t : State, s.Inv → t.Inv → (∀ addr : Word, s.read addr = t.read addr) → s.mem = t.mem

/-- Immediate, ZeroPage and Absolute yield the value or address the operand bytes spell. R134, R135; with R131 to
R133. -/
def Obligations.PlainModesYieldTheirOperand : Prop :=
  ∀ (s : State) (b1 b2 : Byte),
    resolve .immediate b1 b2 s = .value b1 ∧
    (∃ ea : Word, resolve .zeroPage b1 b2 s = .address ea ∧ ea.toNat = b1.toNat ∧ ea.toNat < 0x0100 ∧
      Mode.operandBytes .zeroPage = 1) ∧
    (∃ ea : Word, resolve .absolute b1 b2 s = .address ea ∧ ea.toNat = b2.toNat * 256 + b1.toNat ∧
      Mode.operandBytes .absolute = 2) ∧
    resolve .implied b1 b2 s = .none ∧ resolve .accumulator b1 b2 s = .accumulator

/-- The effective addresses of the six indexed modes, with their wraps (decision D1). R138 to R143: from general
knowledge, by the spec's decision D1 ("with the NMOS 6502 semantics"). -/
def Obligations.IndexedModesYieldTheirAddress : Prop :=
  ∀ (s : State) (b1 b2 : Byte),
    (∃ ea : Word, resolve .zeroPageX b1 b2 s = .address ea ∧ ea.toNat = (b1.toNat + s.x.toNat) % 256) ∧
    (∃ ea : Word, resolve .zeroPageY b1 b2 s = .address ea ∧ ea.toNat = (b1.toNat + s.y.toNat) % 256) ∧
    (∃ ea : Word, resolve .absoluteX b1 b2 s = .address ea ∧
      ea.toNat = (b2.toNat * 256 + b1.toNat + s.x.toNat) % 65536) ∧
    (∃ ea : Word, resolve .absoluteY b1 b2 s = .address ea ∧
      ea.toNat = (b2.toNat * 256 + b1.toNat + s.y.toNat) % 65536) ∧
    (∃ ea : Word, resolve .indexedIndirectX b1 b2 s = .address ea ∧
      ea.toNat = (s.read (BitVec.ofNat 16 ((b1.toNat + s.x.toNat + 1) % 256))).toNat * 256 +
        (s.read (BitVec.ofNat 16 ((b1.toNat + s.x.toNat) % 256))).toNat) ∧
    (∃ ea : Word, resolve .indirectIndexedY b1 b2 s = .address ea ∧
      ea.toNat = ((s.read (BitVec.ofNat 16 ((b1.toNat + 1) % 256))).toNat * 256 +
        (s.read (BitVec.ofNat 16 b1.toNat)).toNat + s.y.toNat) % 65536)

/-- The operand of an instruction comes from its operand bytes: the immediate byte, or the byte at the effective
address, which is what a store writes to. R145, R146, R90; the classes of R126 are marked derived. -/
def Obligations.OperandsComeFromTheOperandBytes : Prop :=
  ∀ (i : Instr) (s : State),
    encode i = i.opcode :: [i.byte1, i.byte2].take i.mode.operandBytes ∧
    (operandClass i.mnemonic = .read →
      (i.mode = .immediate ∧ operandValue i s = i.byte1) ∨
      (i.mode ≠ .immediate ∧ ∃ ea : Word, resolve i.mode i.byte1 i.byte2 s = .address ea ∧
        operandValue i s = s.read ea)) ∧
    (operandClass i.mnemonic = .write → ∃ ea : Word, resolve i.mode i.byte1 i.byte2 s = .address ea ∧
      effectiveAddress i s = ea) ∧
    (operandClass i.mnemonic = .modify →
      (i.mode = .accumulator ∧ operandValue i s = s.a) ∨
      (∃ ea : Word, resolve i.mode i.byte1 i.byte2 s = .address ea ∧ effectiveAddress i s = ea ∧
        operandValue i s = s.read ea))

/-- LDA, LDX and LDY: register, Z and N from the operand value, PC past the instruction, nothing else. R150, R151,
R152, for every mode of each. -/
def Obligations.LoadsCopyTheOperand : Prop :=
  (∀ (i : Instr) (s : State), i.mnemonic = .lda → exec i s = .next { s with
      a := operandValue i s, flagZ := decide (operandValue i s = 0x00#8), flagN := (operandValue i s).getLsbD 7,
      pc := s.pc + BitVec.ofNat 16 i.length }) ∧
  (∀ (i : Instr) (s : State), i.mnemonic = .ldx → exec i s = .next { s with
      x := operandValue i s, flagZ := decide (operandValue i s = 0x00#8), flagN := (operandValue i s).getLsbD 7,
      pc := s.pc + BitVec.ofNat 16 i.length }) ∧
  (∀ (i : Instr) (s : State), i.mnemonic = .ldy → exec i s = .next { s with
      y := operandValue i s, flagZ := decide (operandValue i s = 0x00#8), flagN := (operandValue i s).getLsbD 7,
      pc := s.pc + BitVec.ofNat 16 i.length }) ∧
  (∀ i : Instr, i.mnemonic = .lda ↔ (i.opcode, i.mode) ∈
      ([(0xA9#8, .immediate), (0xA5#8, .zeroPage), (0xAD#8, .absolute), (0xA1#8, .indexedIndirectX),
      (0xB1#8, .indirectIndexedY), (0xB5#8, .zeroPageX), (0xB9#8, .absoluteY),
      (0xBD#8, .absoluteX)] : List (Byte × Mode))) ∧
  (∀ i : Instr, i.mnemonic = .ldx ↔ (i.opcode, i.mode) ∈
      ([(0xA2#8, .immediate), (0xA6#8, .zeroPage), (0xAE#8, .absolute), (0xB6#8, .zeroPageY),
      (0xBE#8, .absoluteY)] : List (Byte × Mode))) ∧
  (∀ i : Instr, i.mnemonic = .ldy ↔ (i.opcode, i.mode) ∈
      ([(0xA0#8, .immediate), (0xA4#8, .zeroPage), (0xAC#8, .absolute), (0xB4#8, .zeroPageX),
      (0xBC#8, .absoluteX)] : List (Byte × Mode)))

/-- STA, STX and STY write the register at the effective address and change no flag. R153, R154, R155, for every
mode of each. -/
def Obligations.StoresWriteTheRegister : Prop :=
  (∀ (i : Instr) (s : State), i.mnemonic = .sta → exec i s = .next
      { s.write (effectiveAddress i s) s.a with pc := s.pc + BitVec.ofNat 16 i.length }) ∧
  (∀ (i : Instr) (s : State), i.mnemonic = .stx → exec i s = .next
      { s.write (effectiveAddress i s) s.x with pc := s.pc + BitVec.ofNat 16 i.length }) ∧
  (∀ (i : Instr) (s : State), i.mnemonic = .sty → exec i s = .next
      { s.write (effectiveAddress i s) s.y with pc := s.pc + BitVec.ofNat 16 i.length }) ∧
  (∀ i : Instr, i.mnemonic = .sta ↔ (i.opcode, i.mode) ∈
      ([(0x85#8, .zeroPage), (0x8D#8, .absolute), (0x81#8, .indexedIndirectX), (0x91#8, .indirectIndexedY),
      (0x95#8, .zeroPageX), (0x99#8, .absoluteY), (0x9D#8, .absoluteX)] : List (Byte × Mode))) ∧
  (∀ i : Instr, i.mnemonic = .stx ↔ (i.opcode, i.mode) ∈
      ([(0x86#8, .zeroPage), (0x8E#8, .absolute), (0x96#8, .zeroPageY)] : List (Byte × Mode))) ∧
  (∀ i : Instr, i.mnemonic = .sty ↔ (i.opcode, i.mode) ∈
      ([(0x84#8, .zeroPage), (0x8C#8, .absolute), (0x94#8, .zeroPageX)] : List (Byte × Mode)))

/-- After STA, STX or STY at an address, LDA, LDX or LDY at that address gives back the value stored, with its Z and N
(derived rule). R156, which the spec marks derived, for every mode of the store and of the load; STX with LDX and STY
with LDY follow from R154 with R151 and R155 with R152 in the same way. The indexed modes are the spec's decision D1. -/
def Obligations.StoreThenLoadRoundTrips : Prop :=
  (∀ (s : State) (addr : Word),
    (∃ t u : State, exec (.staAbs addr) s = .next t ∧ exec (.ldaAbs addr) t = .next u ∧
      u.a = s.a ∧ u.flagZ = decide (s.a = 0x00#8) ∧ u.flagN = s.a.getLsbD 7) ∧
    (∃ t u : State, exec (.stxAbs addr) s = .next t ∧ exec (.ldxAbs addr) t = .next u ∧
      u.x = s.x ∧ u.flagZ = decide (s.x = 0x00#8) ∧ u.flagN = s.x.getLsbD 7) ∧
    (∃ t u : State, exec (.styAbs addr) s = .next t ∧ exec (.ldyAbs addr) t = .next u ∧
      u.y = s.y ∧ u.flagZ = decide (s.y = 0x00#8) ∧ u.flagN = s.y.getLsbD 7)) ∧
  (∀ (i j : Instr) (s : State), j.mode ≠ .immediate →
    (i.mnemonic = .sta → j.mnemonic = .lda → ∃ t : State, exec i s = .next t ∧
      (effectiveAddress j t = effectiveAddress i s → ∃ u : State, exec j t = .next u ∧
        u.a = s.a ∧ u.flagZ = decide (s.a = 0x00#8) ∧ u.flagN = s.a.getLsbD 7)) ∧
    (i.mnemonic = .stx → j.mnemonic = .ldx → ∃ t : State, exec i s = .next t ∧
      (effectiveAddress j t = effectiveAddress i s → ∃ u : State, exec j t = .next u ∧
        u.x = s.x ∧ u.flagZ = decide (s.x = 0x00#8) ∧ u.flagN = s.x.getLsbD 7)) ∧
    (i.mnemonic = .sty → j.mnemonic = .ldy → ∃ t : State, exec i s = .next t ∧
      (effectiveAddress j t = effectiveAddress i s → ∃ u : State, exec j t = .next u ∧
        u.y = s.y ∧ u.flagZ = decide (s.y = 0x00#8) ∧ u.flagN = s.y.getLsbD 7)))

/-- TAX, TAY, TSX, TXA and TYA copy with Z and N, TXS copies without flags. R170 to R175. -/
def Obligations.TransfersCopyARegister : Prop :=
  ∀ s : State,
    exec .tax s = .next { s with x := s.a, flagZ := decide (s.a = 0x00#8), flagN := s.a.getLsbD 7, pc := s.pc + 1 } ∧
    exec .tay s = .next { s with y := s.a, flagZ := decide (s.a = 0x00#8), flagN := s.a.getLsbD 7, pc := s.pc + 1 } ∧
    exec .tsx s = .next { s with x := s.sp, flagZ := decide (s.sp = 0x00#8), flagN := s.sp.getLsbD 7, pc := s.pc + 1 } ∧
    exec .txa s = .next { s with a := s.x, flagZ := decide (s.x = 0x00#8), flagN := s.x.getLsbD 7, pc := s.pc + 1 } ∧
    exec .txs s = .next { s with sp := s.x, pc := s.pc + 1 } ∧
    exec .tya s = .next { s with a := s.y, flagZ := decide (s.y = 0x00#8), flagN := s.y.getLsbD 7, pc := s.pc + 1 } ∧
    encode .tax = [0xAA#8] ∧ encode .tay = [0xA8#8] ∧ encode .tsx = [0xBA#8] ∧
    encode .txa = [0x8A#8] ∧ encode .txs = [0x9A#8] ∧ encode .tya = [0x98#8]

/-- AND, ORA and EOR: A, Z and N from the result, PC past the instruction, nothing else. R180, R181, R182, for every
mode of each. -/
def Obligations.LogicCombinesWithA : Prop :=
  (∀ (i : Instr) (s : State), i.mnemonic = .and → ∃ r : Byte,
      (∀ k : Nat, k < 8 → r.getLsbD k = (s.a.getLsbD k && (operandValue i s).getLsbD k)) ∧
      exec i s = .next { s with
          a := r, flagZ := decide (r = 0x00#8), flagN := r.getLsbD 7, pc := s.pc + BitVec.ofNat 16 i.length }) ∧
  (∀ (i : Instr) (s : State), i.mnemonic = .ora → ∃ r : Byte,
      (∀ k : Nat, k < 8 → r.getLsbD k = (s.a.getLsbD k || (operandValue i s).getLsbD k)) ∧
      exec i s = .next { s with
          a := r, flagZ := decide (r = 0x00#8), flagN := r.getLsbD 7, pc := s.pc + BitVec.ofNat 16 i.length }) ∧
  (∀ (i : Instr) (s : State), i.mnemonic = .eor → ∃ r : Byte,
      (∀ k : Nat, k < 8 → r.getLsbD k = (s.a.getLsbD k ^^ (operandValue i s).getLsbD k)) ∧
      exec i s = .next { s with
          a := r, flagZ := decide (r = 0x00#8), flagN := r.getLsbD 7, pc := s.pc + BitVec.ofNat 16 i.length }) ∧
  (∀ i : Instr, i.mnemonic = .and ↔ (i.opcode, i.mode) ∈
      ([(0x29#8, .immediate), (0x25#8, .zeroPage), (0x2D#8, .absolute), (0x21#8, .indexedIndirectX),
      (0x31#8, .indirectIndexedY), (0x35#8, .zeroPageX), (0x39#8, .absoluteY),
      (0x3D#8, .absoluteX)] : List (Byte × Mode))) ∧
  (∀ i : Instr, i.mnemonic = .ora ↔ (i.opcode, i.mode) ∈
      ([(0x09#8, .immediate), (0x05#8, .zeroPage), (0x0D#8, .absolute), (0x01#8, .indexedIndirectX),
      (0x11#8, .indirectIndexedY), (0x15#8, .zeroPageX), (0x19#8, .absoluteY),
      (0x1D#8, .absoluteX)] : List (Byte × Mode))) ∧
  (∀ i : Instr, i.mnemonic = .eor ↔ (i.opcode, i.mode) ∈
      ([(0x49#8, .immediate), (0x45#8, .zeroPage), (0x4D#8, .absolute), (0x41#8, .indexedIndirectX),
      (0x51#8, .indirectIndexedY), (0x55#8, .zeroPageX), (0x59#8, .absoluteY),
      (0x5D#8, .absoluteX)] : List (Byte × Mode)))

/-- BIT: Z from A and M, N and V from bits 7 and 6 of M, A unchanged. R183. -/
def Obligations.BitTestsTheOperand : Prop :=
  (∀ (i : Instr) (s : State), i.mnemonic = .bit → ∃ z : Bool,
      (z = true ↔ ∀ k : Nat, ¬ (s.a.getLsbD k = true ∧ (operandValue i s).getLsbD k = true)) ∧
      exec i s = .next { s with
          flagZ := z, flagN := (operandValue i s).getLsbD 7, flagV := (operandValue i s).getLsbD 6,
          pc := s.pc + BitVec.ofNat 16 i.length }) ∧
  (∀ i : Instr, i.mnemonic = .bit ↔ (i.opcode, i.mode) ∈
      ([(0x24#8, .zeroPage), (0x2C#8, .absolute)] : List (Byte × Mode)))

/-- CMP, CPX and CPY: C is unsigned >=, Z is equality, N is bit 7 of the wrapped difference. R190 to R193, for every
mode of each. -/
def Obligations.ComparesSetCarryZeroNegative : Prop :=
  (∀ (i : Instr) (s : State), i.mnemonic = .cmp → exec i s = .next { s with
      flagC := decide ((operandValue i s).toNat ≤ s.a.toNat), flagZ := decide (s.a = operandValue i s),
      flagN := decide (128 ≤ (s.a.toNat + 256 - (operandValue i s).toNat) % 256),
      pc := s.pc + BitVec.ofNat 16 i.length }) ∧
  (∀ (i : Instr) (s : State), i.mnemonic = .cpx → exec i s = .next { s with
      flagC := decide ((operandValue i s).toNat ≤ s.x.toNat), flagZ := decide (s.x = operandValue i s),
      flagN := decide (128 ≤ (s.x.toNat + 256 - (operandValue i s).toNat) % 256),
      pc := s.pc + BitVec.ofNat 16 i.length }) ∧
  (∀ (i : Instr) (s : State), i.mnemonic = .cpy → exec i s = .next { s with
      flagC := decide ((operandValue i s).toNat ≤ s.y.toNat), flagZ := decide (s.y = operandValue i s),
      flagN := decide (128 ≤ (s.y.toNat + 256 - (operandValue i s).toNat) % 256),
      pc := s.pc + BitVec.ofNat 16 i.length }) ∧
  (∀ i : Instr, i.mnemonic = .cmp ↔ (i.opcode, i.mode) ∈
      ([(0xC9#8, .immediate), (0xC5#8, .zeroPage), (0xCD#8, .absolute), (0xC1#8, .indexedIndirectX),
      (0xD1#8, .indirectIndexedY), (0xD5#8, .zeroPageX), (0xD9#8, .absoluteY),
      (0xDD#8, .absoluteX)] : List (Byte × Mode))) ∧
  (∀ i : Instr, i.mnemonic = .cpx ↔ (i.opcode, i.mode) ∈
      ([(0xE0#8, .immediate), (0xE4#8, .zeroPage), (0xEC#8, .absolute)] : List (Byte × Mode))) ∧
  (∀ i : Instr, i.mnemonic = .cpy ↔ (i.opcode, i.mode) ∈
      ([(0xC0#8, .immediate), (0xC4#8, .zeroPage), (0xCC#8, .absolute)] : List (Byte × Mode)))

/-- ADC: A, C, V, Z and N of A + M + C, binary whatever D holds, nothing else. R195; R196: SED and CLD only store
the bit, and ADC and SBC compute the same whatever D is. -/
def Obligations.AdcAddsWithCarry : Prop :=
  (∀ (i : Instr) (s : State), i.mnemonic = .adc → ∃ (r : Byte) (v : Bool),
      r.toNat = (s.a.toNat + (operandValue i s).toNat + s.flagC.toNat) % 256 ∧
      (v = true ↔ s.a.getLsbD 7 = (operandValue i s).getLsbD 7 ∧ r.getLsbD 7 ≠ s.a.getLsbD 7) ∧
      exec i s = .next { s with
          a := r, flagC := decide (255 < s.a.toNat + (operandValue i s).toNat + s.flagC.toNat), flagV := v,
          flagZ := decide (r = 0x00#8), flagN := r.getLsbD 7, pc := s.pc + BitVec.ofNat 16 i.length }) ∧
  (∀ s : State, exec .sed s = .next { s with flagD := true, pc := s.pc + 1 } ∧
    exec .cld s = .next { s with flagD := false, pc := s.pc + 1 }) ∧
  (∀ (i : Instr) (s : State) (d : Bool), i.mnemonic = .adc ∨ i.mnemonic = .sbc → ∃ t : State,
      exec i s = .next t ∧ exec i { s with flagD := d } = .next { t with flagD := d }) ∧
  (∀ i : Instr, i.mnemonic = .adc ↔ (i.opcode, i.mode) ∈
      ([(0x69#8, .immediate), (0x65#8, .zeroPage), (0x6D#8, .absolute), (0x61#8, .indexedIndirectX),
      (0x71#8, .indirectIndexedY), (0x75#8, .zeroPageX), (0x79#8, .absoluteY),
      (0x7D#8, .absoluteX)] : List (Byte × Mode)))

/-- SBC: A - M - (1 - C), C the inverse of a borrow, V the signed overflow, nothing else. R197. -/
def Obligations.SbcSubtractsWithBorrow : Prop :=
  (∀ (i : Instr) (s : State), i.mnemonic = .sbc → ∃ (r : Byte) (c v : Bool),
      r.toNat = (s.a.toNat + 256 - (operandValue i s).toNat - (1 - s.flagC.toNat)) % 256 ∧
      (c = true ↔ (operandValue i s).toNat + (1 - s.flagC.toNat) ≤ s.a.toNat) ∧
      (c = true ↔ 255 < s.a.toNat + (operandValue i s ^^^ 0xFF#8).toNat + s.flagC.toNat) ∧
      (v = true ↔ s.a.getLsbD 7 ≠ (operandValue i s).getLsbD 7 ∧ r.getLsbD 7 ≠ s.a.getLsbD 7) ∧
      exec i s = .next { s with
          a := r, flagC := c, flagV := v, flagZ := decide (r = 0x00#8), flagN := r.getLsbD 7,
          pc := s.pc + BitVec.ofNat 16 i.length }) ∧
  (∀ i : Instr, i.mnemonic = .sbc ↔ (i.opcode, i.mode) ∈
      ([(0xE9#8, .immediate), (0xE5#8, .zeroPage), (0xED#8, .absolute), (0xE1#8, .indexedIndirectX),
      (0xF1#8, .indirectIndexedY), (0xF5#8, .zeroPageX), (0xF9#8, .absoluteY),
      (0xFD#8, .absoluteX)] : List (Byte × Mode)))

/-- V after ADC and SBC says that the signed result does not fit in 8 bits. R194 and R198 ("Signed interpretation,
two's complement, appears in ... the V flag of ADC/SBC"). -/
def Obligations.OverflowIsSignedOverflow : Prop :=
  ∀ (i : Instr) (s : State),
    (i.mnemonic = .adc → ∃ t : State, exec i s = .next t ∧
      (t.flagV = true ↔ s.a.toInt + (operandValue i s).toInt + s.flagC.toNat < -128 ∨
        127 < s.a.toInt + (operandValue i s).toInt + s.flagC.toNat)) ∧
    (i.mnemonic = .sbc → ∃ t : State, exec i s = .next t ∧
      (t.flagV = true ↔ s.a.toInt - (operandValue i s).toInt - (1 - (s.flagC.toNat : Int)) < -128 ∨
        127 < s.a.toInt - (operandValue i s).toInt - (1 - (s.flagC.toNat : Int))))

/-- The eight branches: PC + 2 + d if the flag condition holds, else PC + 2, modulo 65536 (decision D28). R210 to
R218; the target formula is the spec's decision D28 (conflict C2). -/
def Obligations.BranchesGoWhereTheirFlagSays : Prop :=
  ∀ (d : Byte) (s : State), ∃ taken notTaken : Word,
    (taken.toNat : Int) = ((s.pc.toNat : Int) + 2 + d.toInt) % 65536 ∧
    notTaken.toNat = (s.pc.toNat + 2) % 65536 ∧
    exec (.bpl d) s = .next { s with pc := if s.flagN = false then taken else notTaken } ∧
    exec (.bmi d) s = .next { s with pc := if s.flagN = true then taken else notTaken } ∧
    exec (.bvc d) s = .next { s with pc := if s.flagV = false then taken else notTaken } ∧
    exec (.bvs d) s = .next { s with pc := if s.flagV = true then taken else notTaken } ∧
    exec (.bcc d) s = .next { s with pc := if s.flagC = false then taken else notTaken } ∧
    exec (.bcs d) s = .next { s with pc := if s.flagC = true then taken else notTaken } ∧
    exec (.bne d) s = .next { s with pc := if s.flagZ = false then taken else notTaken } ∧
    exec (.beq d) s = .next { s with pc := if s.flagZ = true then taken else notTaken }

/-- JMP absolute sets PC to its operand and changes nothing else. R220. -/
def Obligations.JmpAbsoluteSetsPc : Prop :=
  ∀ (s : State) (b1 b2 : Byte),
    exec (.jmpAbs (wordOf b2 b1)) s = .next { s with pc := wordOf b2 b1 } ∧
    encode (.jmpAbs (wordOf b2 b1)) = [0x4C#8, b1, b2]

/-- JMP (ind) reads the high byte of its target in the page of its pointer (decision D27). R137, R221: the quirk is
kept by the spec's decision D27 (conflict C3). -/
def Obligations.JmpIndirectKeepsThePageWrap : Prop :=
  ∀ (s : State) (b1 b2 : Byte), ∃ t : State,
    exec (.jmpInd (wordOf b2 b1)) s = .next t ∧
    t = { s with pc := t.pc } ∧
    loByte t.pc = s.read (BitVec.ofNat 16 (b2.toNat * 256 + b1.toNat)) ∧
    hiByte t.pc = s.read (BitVec.ofNat 16 (b2.toNat * 256 + (b1.toNat + 1) % 256)) ∧
    (b1 ≠ 0xFF#8 → hiByte t.pc = s.read (wordOf b2 b1 + 1)) ∧
    (b1 = 0xFF#8 → hiByte t.pc = s.read (wordOf b2 0x00#8))

/-- JSR pushes pc + 2, high byte first, and jumps (decision D14 on the order). R222, R68; the order of its accesses
is decision D14. -/
def Obligations.JsrPushesTheReturnAddress : Prop :=
  ∀ (s : State) (target : Word), ∃ t : State,
    exec (.jsr target) s = .next t ∧ t = { s with pc := target, sp := s.sp - 2, mem := t.mem } ∧
    t.read (0x0100#16 + s.sp.setWidth 16) = BitVec.ofNat 8 ((s.pc.toNat + 2) % 65536 / 256) ∧
    t.read (0x0100#16 + (s.sp - 1).setWidth 16) = BitVec.ofNat 8 ((s.pc.toNat + 2) % 256) ∧
    ∀ addr : Word, addr ≠ 0x0100#16 + s.sp.setWidth 16 → addr ≠ 0x0100#16 + (s.sp - 1).setWidth 16 →
      t.read addr = s.read addr

/-- RTS pulls low then high byte and sets PC to the pulled address plus 1. R223. -/
def Obligations.RtsReturnsPastThePulledAddress : Prop :=
  (∀ s : State, ∃ pc' : Word,
      pc'.toNat = ((s.read (0x0100#16 + (s.sp + 2).setWidth 16)).toNat * 256 +
        (s.read (0x0100#16 + (s.sp + 1).setWidth 16)).toNat + 1) % 65536 ∧
      exec .rts s = .next { s with sp := s.sp + 2, pc := pc' }) ∧
  encode .rts = [0x60#8]

/-- RTI pulls the status byte and then PC, without adding 1 (decision D10 on the flags). R224, R310; which bits are
loaded is the spec's decision D10, bit 5 its decision D12. -/
def Obligations.RtiRestoresFlagsAndPc : Prop :=
  ∀ s : State, ∃ (t : State) (p : Byte), p = s.read (0x0100#16 + (s.sp + 1).setWidth 16) ∧
    exec .rti s = .next t ∧
    t = { s with
        sp := s.sp + 3, pc := t.pc, flagN := p.getLsbD 7, flagV := p.getLsbD 6, flagB := p.getLsbD 4,
        flagD := p.getLsbD 3, flagI := p.getLsbD 2, flagZ := p.getLsbD 1, flagC := p.getLsbD 0 } ∧
    t.pc.toNat = (s.read (0x0100#16 + (s.sp + 3).setWidth 16)).toNat * 256 +
      (s.read (0x0100#16 + (s.sp + 2).setWidth 16)).toNat ∧
    t.statusByte = p &&& 0xDF#8

/-- Push writes at SP then decrements, Pull increments then reads, both modulo 256 in the stack page. R240, R241. -/
def Obligations.PushAndPullMoveOneByte : Prop :=
  ∀ (s : State) (v : Byte),
    (s.push v = { s with sp := (s.push v).sp, mem := (s.push v).mem } ∧
      (s.push v).sp.toNat = (s.sp.toNat + 255) % 256 ∧
      (s.push v).read (BitVec.ofNat 16 (0x0100 + s.sp.toNat)) = v ∧
      (∀ addr : Word, addr.toNat ≠ 0x0100 + s.sp.toNat → (s.push v).read addr = s.read addr)) ∧
    (s.pull.2 = { s with sp := s.pull.2.sp } ∧
      s.pull.2.sp.toNat = (s.sp.toNat + 1) % 256 ∧
      s.pull.1 = s.read (BitVec.ofNat 16 (0x0100 + (s.sp.toNat + 1) % 256)))

/-- Every stack access is inside 0x0100-0x01FF and wraps there. R247. -/
def Obligations.StackStaysInItsPage : Prop :=
  (∀ sp : Byte, 0x0100 ≤ (stackAddr sp).toNat ∧ (stackAddr sp).toNat ≤ 0x01FF) ∧
  (∀ (s : State) (v : Byte), s.sp = 0x00#8 → (s.push v).sp = 0xFF#8 ∧ (s.push v).read 0x0100#16 = v) ∧
  (∀ s : State, s.sp = 0xFF#8 → s.pull.2.sp = 0x00#8 ∧ s.pull.1 = s.read 0x0100#16)

/-- PHA pushes A and changes no flag. R242. -/
def Obligations.PhaPushesA : Prop :=
  (∀ s : State, exec .pha s =
      .next { s.write (0x0100#16 + s.sp.setWidth 16) s.a with sp := s.sp - 1, pc := s.pc + 1 }) ∧
  encode .pha = [0x48#8]

/-- PLA pulls A, and writes Z and N only under PLA_SETS_NZ (decision D11). R243: the parameter is the spec's
decision D11. -/
def Obligations.PlaPullsA : Prop :=
  ∀ s : State, ∃ v : Byte, v = s.read (0x0100#16 + (s.sp + 1).setWidth 16) ∧
    (s.cfg.plaSetsNZ = false → exec .pla s = .next { s with a := v, sp := s.sp + 1, pc := s.pc + 1 }) ∧
    (s.cfg.plaSetsNZ = true → exec .pla s = .next
      { s with a := v, sp := s.sp + 1, pc := s.pc + 1, flagZ := decide (v = 0x00#8), flagN := v.getLsbD 7 })

/-- The status byte has each flag at its bit and bit 5 clear (decisions D9 and D12). R37, R40, R246: the spec's
decisions D9, D10 and D12. -/
def Obligations.StatusByteHoldsTheFlags : Prop :=
  ∀ (s : State) (p : Byte),
    s.statusByte.getLsbD 7 = s.flagN ∧ s.statusByte.getLsbD 6 = s.flagV ∧ s.statusByte.getLsbD 5 = false ∧
    s.statusByte.getLsbD 4 = s.flagB ∧ s.statusByte.getLsbD 3 = s.flagD ∧ s.statusByte.getLsbD 2 = s.flagI ∧
    s.statusByte.getLsbD 1 = s.flagZ ∧ s.statusByte.getLsbD 0 = s.flagC ∧
    (s.loadP p).statusByte = p &&& 0xDF#8 ∧ s.loadP s.statusByte = s

/-- PHP pushes the status byte as stored, PLP loads the seven flags from the pulled byte (decisions D9, D10). R244,
R245, R246: the spec's decisions D9 and D10. -/
def Obligations.PhpAndPlpMoveTheStatus : Prop :=
  ∀ s : State, ∃ p : Byte, p = s.read (0x0100#16 + (s.sp + 1).setWidth 16) ∧
    exec .php s = .next { s.write (0x0100#16 + s.sp.setWidth 16) s.statusByte with sp := s.sp - 1, pc := s.pc + 1 } ∧
    exec .plp s = .next { s with
        sp := s.sp + 1, pc := s.pc + 1, flagN := p.getLsbD 7, flagV := p.getLsbD 6, flagB := p.getLsbD 4,
        flagD := p.getLsbD 3, flagI := p.getLsbD 2, flagZ := p.getLsbD 1, flagC := p.getLsbD 0 }

/-- PHA then PLA, PHP then PLP, JSR then RTS, and BRK then RTI come back (derived rules). R248, R226, which the spec
marks derived, and R261's matching RTI (decision D7). -/
def Obligations.PushPullPairsRoundTrip : Prop :=
  ∀ s : State,
    (∃ t u : State, exec .pha s = .next t ∧ exec .pla t = .next u ∧ u.a = s.a ∧ u.sp = s.sp) ∧
    (∃ t u : State, exec .php s = .next t ∧ exec .plp t = .next u ∧ u.statusByte = s.statusByte ∧ u.sp = s.sp) ∧
    (∀ target : Word, ∃ t u : State, exec (.jsr target) s = .next t ∧ exec .rts t = .next u ∧
      u.pc = s.pc + 3 ∧ u.sp = s.sp) ∧
    (s.cfg.brkMode = .interrupt → ∃ t u : State, exec .brk s = .next t ∧ exec .rti t = .next u ∧
      u.pc = s.pc + 2 ∧ u.sp = s.sp ∧ u.flagB = true ∧ u.flagI = s.flagI ∧ u.flagN = s.flagN ∧
      u.flagV = s.flagV ∧ u.flagD = s.flagD ∧ u.flagZ = s.flagZ ∧ u.flagC = s.flagC)

/-- CLC, SEC, CLI, SEI, CLV, CLD and SED write their one flag. R250 to R256. -/
def Obligations.FlagInstructionsWriteOneFlag : Prop :=
  ∀ s : State,
    exec .clc s = .next { s with flagC := false, pc := s.pc + 1 } ∧
    exec .sec s = .next { s with flagC := true, pc := s.pc + 1 } ∧
    exec .cli s = .next { s with flagI := false, pc := s.pc + 1 } ∧
    exec .sei s = .next { s with flagI := true, pc := s.pc + 1 } ∧
    exec .clv s = .next { s with flagV := false, pc := s.pc + 1 } ∧
    exec .cld s = .next { s with flagD := false, pc := s.pc + 1 } ∧
    exec .sed s = .next { s with flagD := true, pc := s.pc + 1 } ∧
    encode .clc = [0x18#8] ∧ encode .sec = [0x38#8] ∧ encode .cli = [0x58#8] ∧ encode .sei = [0x78#8] ∧
    encode .clv = [0xB8#8] ∧ encode .cld = [0xD8#8] ∧ encode .sed = [0xF8#8]

/-- BRK in Interrupt mode pushes PC + 2 and P with B = 1, sets B and I, and goes to the vector (decisions D7, D8).
R261, R309: from general knowledge, by the spec's decisions D7 and D8. -/
def Obligations.BrkTakesTheSoftwareInterrupt : Prop :=
  ∀ s : State, s.cfg.brkMode = .interrupt → ∃ t : State,
    exec .brk s = .next t ∧
    t = { s with flagB := true, flagI := true, sp := s.sp - 3, pc := t.pc, mem := t.mem } ∧
    t.pc.toNat = (s.read 0xFFFF#16).toNat * 256 + (s.read 0xFFFE#16).toNat ∧
    t.read (0x0100#16 + s.sp.setWidth 16) = BitVec.ofNat 8 ((s.pc.toNat + 2) % 65536 / 256) ∧
    t.read (0x0100#16 + (s.sp - 1).setWidth 16) = BitVec.ofNat 8 ((s.pc.toNat + 2) % 256) ∧
    t.read (0x0100#16 + (s.sp - 2).setWidth 16) = ({ s with flagB := true }).statusByte ∧
    ∀ addr : Word, addr ≠ 0x0100#16 + s.sp.setWidth 16 → addr ≠ 0x0100#16 + (s.sp - 1).setWidth 16 →
      addr ≠ 0x0100#16 + (s.sp - 2).setWidth 16 → t.read addr = s.read addr

/-- BRK in Marker mode only advances PC (decision D7). R262: the spec's decision D7. -/
def Obligations.BrkMarkerOnlyAdvances : Prop :=
  ∀ s : State, s.cfg.brkMode = .marker → exec .brk s = .next { s with pc := s.pc + 1 }

/-- ASL, LSR, ROL and ROR on A or memory: the shifted byte, C the bit shifted out, Z and N (decision D2). R270 to
R274: from general knowledge, by the spec's decisions D2 and D15. -/
def Obligations.ShiftsAndRotates : Prop :=
  (∀ (i : Instr) (s : State), i.mnemonic = .asl → ∃ r : Byte,
      r.toNat = ((operandValue i s).toNat * 2) % 256 ∧
      exec i s = .next (if i.mode = .accumulator then
        { s with
            a := r, flagC := (operandValue i s).getLsbD 7, flagZ := decide (r = 0x00#8), flagN := r.getLsbD 7,
            pc := s.pc + BitVec.ofNat 16 i.length }
      else { s.write (effectiveAddress i s) r with
          flagC := (operandValue i s).getLsbD 7, flagZ := decide (r = 0x00#8), flagN := r.getLsbD 7,
          pc := s.pc + BitVec.ofNat 16 i.length })) ∧
  (∀ (i : Instr) (s : State), i.mnemonic = .lsr → ∃ r : Byte,
      r.toNat = (operandValue i s).toNat / 2 ∧
      exec i s = .next (if i.mode = .accumulator then
        { s with
            a := r, flagC := (operandValue i s).getLsbD 0, flagZ := decide (r = 0x00#8), flagN := r.getLsbD 7,
            pc := s.pc + BitVec.ofNat 16 i.length }
      else { s.write (effectiveAddress i s) r with
          flagC := (operandValue i s).getLsbD 0, flagZ := decide (r = 0x00#8), flagN := r.getLsbD 7,
          pc := s.pc + BitVec.ofNat 16 i.length })) ∧
  (∀ (i : Instr) (s : State), i.mnemonic = .rol → ∃ r : Byte,
      r.toNat = ((operandValue i s).toNat * 2 + s.flagC.toNat) % 256 ∧
      exec i s = .next (if i.mode = .accumulator then
        { s with
            a := r, flagC := (operandValue i s).getLsbD 7, flagZ := decide (r = 0x00#8), flagN := r.getLsbD 7,
            pc := s.pc + BitVec.ofNat 16 i.length }
      else { s.write (effectiveAddress i s) r with
          flagC := (operandValue i s).getLsbD 7, flagZ := decide (r = 0x00#8), flagN := r.getLsbD 7,
          pc := s.pc + BitVec.ofNat 16 i.length })) ∧
  (∀ (i : Instr) (s : State), i.mnemonic = .ror → ∃ r : Byte,
      r.toNat = (operandValue i s).toNat / 2 + 128 * s.flagC.toNat ∧
      exec i s = .next (if i.mode = .accumulator then
        { s with
            a := r, flagC := (operandValue i s).getLsbD 0, flagZ := decide (r = 0x00#8), flagN := r.getLsbD 7,
            pc := s.pc + BitVec.ofNat 16 i.length }
      else { s.write (effectiveAddress i s) r with
          flagC := (operandValue i s).getLsbD 0, flagZ := decide (r = 0x00#8), flagN := r.getLsbD 7,
          pc := s.pc + BitVec.ofNat 16 i.length }))

/-- INC and DEC step the byte at the effective address modulo 256 and set Z and N (decision D3). R280, R281, R274:
from general knowledge, by the spec's decisions D3 and D15. -/
def Obligations.IncDecMemory : Prop :=
  (∀ (i : Instr) (s : State), i.mnemonic = .inc → ∃ r : Byte,
      r.toNat = ((operandValue i s).toNat + 1) % 256 ∧
      exec i s = .next { s.write (effectiveAddress i s) r with
          flagZ := decide (r = 0x00#8), flagN := r.getLsbD 7, pc := s.pc + BitVec.ofNat 16 i.length }) ∧
  (∀ (i : Instr) (s : State), i.mnemonic = .dec → ∃ r : Byte,
      r.toNat = ((operandValue i s).toNat + 255) % 256 ∧
      exec i s = .next { s.write (effectiveAddress i s) r with
          flagZ := decide (r = 0x00#8), flagN := r.getLsbD 7, pc := s.pc + BitVec.ofNat 16 i.length })

/-- INX, INY, DEX and DEY step their register and set Z and N; NOP only advances PC (decisions D3, D4). R282 to
R285, R290: from general knowledge, by the spec's decisions D3 and D4. -/
def Obligations.IncDecRegistersAndNop : Prop :=
  ∀ s : State,
    (∃ r : Byte, r.toNat = (s.x.toNat + 1) % 256 ∧
      exec .inx s = .next { s with x := r, flagZ := decide (r = 0x00#8), flagN := r.getLsbD 7, pc := s.pc + 1 }) ∧
    (∃ r : Byte, r.toNat = (s.y.toNat + 1) % 256 ∧
      exec .iny s = .next { s with y := r, flagZ := decide (r = 0x00#8), flagN := r.getLsbD 7, pc := s.pc + 1 }) ∧
    (∃ r : Byte, r.toNat = (s.x.toNat + 255) % 256 ∧
      exec .dex s = .next { s with x := r, flagZ := decide (r = 0x00#8), flagN := r.getLsbD 7, pc := s.pc + 1 }) ∧
    (∃ r : Byte, r.toNat = (s.y.toNat + 255) % 256 ∧
      exec .dey s = .next { s with y := r, flagZ := decide (r = 0x00#8), flagN := r.getLsbD 7, pc := s.pc + 1 }) ∧
    exec .nop s = .next { s with pc := s.pc + 1 }

/-- Every flag an instruction does not list keeps its value. R38, with the writers of R36's table. -/
def Obligations.FlagsChangeOnlyByTheirWriters : Prop :=
  ∀ (i : Instr) (s t : State), exec i s = .next t →
    (i.mnemonic ∉ writersOfN → ¬ (i = .pla ∧ s.cfg.plaSetsNZ = true) → t.flagN = s.flagN) ∧
    (i.mnemonic ∉ writersOfZ → ¬ (i = .pla ∧ s.cfg.plaSetsNZ = true) → t.flagZ = s.flagZ) ∧
    (i.mnemonic ∉ writersOfV → t.flagV = s.flagV) ∧
    (i.mnemonic ∉ writersOfB → ¬ (i = .brk ∧ s.cfg.brkMode = .interrupt) → t.flagB = s.flagB) ∧
    (i.mnemonic ∉ writersOfD → t.flagD = s.flagD) ∧
    (i.mnemonic ∉ writersOfI → ¬ (i = .brk ∧ s.cfg.brkMode = .interrupt) → t.flagI = s.flagI) ∧
    (i.mnemonic ∉ writersOfC → t.flagC = s.flagC)

/-- A, X, Y and SP change only by the instructions the spec lists as their writers. R31 to R34, R49 (its writers),
R122, R125. -/
def Obligations.RegistersChangeOnlyByTheirWriters : Prop :=
  ∀ (i : Instr) (s t : State), exec i s = .next t →
    (i.mnemonic ∉ writersOfA → ¬ (i.mnemonic ∈ shiftMnemonics ∧ i.mode = .accumulator) → t.a = s.a) ∧
    (i.mnemonic ∉ writersOfX → t.x = s.x) ∧
    (i.mnemonic ∉ writersOfY → t.y = s.y) ∧
    (i.mnemonic ∉ writersOfSP → t.sp = s.sp) ∧
    (i = .brk → s.cfg.brkMode = .marker → t.sp = s.sp) ∧
    (i.mode ≠ .relative → i.mnemonic ∉ ([.jmp, .jsr, .rts, .rti] : List Mnemonic) →
      ¬ (i = .brk ∧ s.cfg.brkMode = .interrupt) → t.pc = s.pc + BitVec.ofNat 16 (1 + i.mode.operandBytes))

/-- Every byte of memory outside the addresses an instruction stores to reads as before (decisions D7, D8 for BRK).
The frame of every instruction over memory (R79: memory is "mutated only through read/write"). Who stores, and where:
R153 to R155; R242 and R244; JSR by R222; BRK by R261 and R262, the spec's decisions D7 and D8; the shifts, INC and DEC
by R270 to R274, R280 and R281, its decisions D2, D3 and D15; the indexed addresses by its decision D1. -/
def Obligations.MemoryChangesOnlyWhereStored : Prop :=
  ∀ (i : Instr) (s t : State), exec i s = .next t →
    (∀ addr : Word, addr ∉ storedAddresses i s → t.read addr = s.read addr) ∧
    (storedAddresses i s = [] → t.mem = s.mem)

/-- D and I are stored and pushed but change nothing else (R306 itself derived). R196, R306, R36 (who reads D and
I). -/
def Obligations.DecimalAndInterruptFlagsAreInert : Prop :=
  ∀ (i : Instr) (s : State) (d k : Bool), i ≠ .php → i ≠ .brk → ∃ t u : State,
    exec i s = .next t ∧ exec i { s with flagD := d, flagI := k } = .next u ∧
    { u with flagD := false, flagI := false } = { t with flagD := false, flagI := false }

/-- The transactions of a step, served in order by memory, are at most 6 and leave exactly the next state's memory
(decisions D14, D21). R71, R72, R124: the spec's decisions D14, D15, D21 and D30. The lists are written apart from
the meanings (log entry 8). -/
def Obligations.BusTransactionsAccountForTheStep : Prop :=
  ∀ s t : State, step s = .next t →
    replay s.mem (stepTransactions s) = some t.mem ∧
    (stepTransactions s).head? = some (.read s.pc (s.read s.pc)) ∧
    (stepTransactions s).length ≤ 6

/-- A load copies its bytes at the base, sets PC to it, and changes nothing else; one that does not fit changes nothing
(decision D26 on what fits). R345; the boundary of ProgramTooLarge is R346's, the spec's decision D26 (log entry 14).
-/
def Obligations.LoadCopiesTheProgram : Prop :=
  (∀ (s : State) (bytes : List Byte) (base : Word),
      (base.toNat + bytes.length ≤ 65536 → ∃ t : State, s.loadProgram bytes base = .ok t ∧
        t = { s with pc := base, mem := t.mem } ∧
        (∀ (k : Nat) (h : k < bytes.length), t.read (BitVec.ofNat 16 (base.toNat + k)) = bytes[k]) ∧
        (∀ addr : Word, addr.toNat < base.toNat ∨ base.toNat + bytes.length ≤ addr.toNat →
          t.read addr = s.read addr)) ∧
      (65536 < base.toNat + bytes.length → s.loadProgram bytes base = .error .programTooLarge)) ∧
  (∀ (s : State) (bytes : List Byte), s.loadDefault bytes = s.loadProgram bytes s.cfg.loadBase) ∧
  Config.default.loadBase = 0x0600#16

/-- tick(n) reports n exactly if n steps in a row answer next states, and then holds the last (decision D25). R349:
what is reported with a failure is the spec's decision D25. -/
def Obligations.TickIsRepeatedStepping : Prop :=
  ∀ (n : Nat) (s t : State),
    (State.tick n s = (t, .ok n) ↔ Host.Core.run core n s = .next t) ∧
    (∀ k : Nat, State.tick n s = (t, .ok k) → k = n) ∧
    (∀ f : Failure, State.tick n s = (t, .error f) → ∃ (k : Nat) (u : State), k < n ∧
      Host.Core.run core k s = .next u ∧ u.executeOne = (t, some f))

/-- run_until_break ends after the first executed opcode 0x00, at a failing step before one, or on its budget, each
exactly when that comes first (log entry 10). R350, R352; what the state holds at the fault end is the spec's decision
D16, the three ends its decision D31; the budget is DESIGN CHOICE (log entry 10), since run_until_break "has no
timeout". -/
def Obligations.RunUntilBreakStopsAfterBrk : Prop :=
  ∀ (n : Nat) (s t : State),
    (State.runUntilBreak n s = (t, .breakEnd) ↔ ∃ (k : Nat) (u : State), k < n ∧
      Host.Core.run core k s = .next u ∧ s.noBreakBefore k ∧ u.read u.pc = 0x00#8 ∧ step u = .next t) ∧
    (State.runUntilBreak n s = (t, .budgetEnd) ↔ Host.Core.run core n s = .next t ∧ s.noBreakBefore n) ∧
    (∀ f : Failure, State.runUntilBreak n s = (t, .faultEnd f) ↔ ∃ (k : Nat) (u : State), k < n ∧
      Host.Core.run core k s = .next u ∧ s.noBreakBefore k ∧ u.executeOne = (t, some f))

/-- An encoded instruction placed by withFetchWord is what the next step runs (log entry 6, the model's). Log entry
6 (DESIGN CHOICE): how an instruction is placed for the next fetch (R120). -/
def Obligations.PlacedWordRunsNext : Prop :=
  ∀ (s : State) (i : Instr), ∃ (w : Nat) (t : State),
    w = i.opcode.toNat + i.byte1.toNat * 256 + i.byte2.toNat * 65536 ∧
    t = s.withFetchWord (8 * i.length) w ∧
    step t = exec i t ∧
    t = { s with mem := t.mem, fault := none, cfg := t.cfg } ∧
    t.cfg.brkMode = s.cfg.brkMode ∧ t.cfg.plaSetsNZ = s.cfg.plaSetsNZ ∧ t.cfg.loadBase = s.cfg.loadBase
end

