-- ==== Sys2Proof/Laws/Decode.lean ====
section
/-! SUPPORT. Bytes and words taken apart and put together (00_scope.md R8, R9), and what the groups enable. -/

namespace Sys2Proof

theorem loByte_toNat (w : Word) : (loByte w).toNat = w.toNat % 256 := by
  simp [loByte]

theorem hiByte_toNat (w : Word) : (hiByte w).toNat = w.toNat / 256 := by
  have := w.isLt
  simp [hiByte, Nat.shiftRight_eq_div_pow]
  omega

theorem wordOf_toNat (h l : Byte) : (wordOf h l).toNat = h.toNat * 256 + l.toNat := by
  have := l.isLt
  simp only [wordOf, BitVec.toNat_append, Nat.shiftLeft_eq]
  rw [← Nat.shiftLeft_eq, ← Nat.shiftLeft_add_eq_or_of_lt this, Nat.shiftLeft_eq]

@[simp] theorem loByte_wordOf (h l : Byte) : loByte (wordOf h l) = l := by
  apply BitVec.eq_of_toNat_eq
  rw [loByte_toNat, wordOf_toNat]
  omega

@[simp] theorem hiByte_wordOf (h l : Byte) : hiByte (wordOf h l) = h := by
  apply BitVec.eq_of_toNat_eq
  rw [hiByte_toNat, wordOf_toNat]
  omega

@[simp] theorem wordOf_hiByte_loByte (w : Word) : wordOf (hiByte w) (loByte w) = w := by
  apply BitVec.eq_of_toNat_eq
  rw [wordOf_toNat, hiByte_toNat, loByte_toNat]
  omega

theorem zext16_toNat (v : Byte) : (zext16 v).toNat = v.toNat := by
  have := v.isLt
  simp [zext16]
  omega

theorem sext16_toInt (v : Byte) : (sext16 v).toInt = v.toInt := by
  simp only [sext16]
  exact BitVec.toInt_signExtend_of_le (by omega)

/-- Well-formedness is the presence of the instruction's group. -/
theorem wellFormed_eq_enables (cfg : Config) (i : Instr) : i.wellFormed cfg = cfg.enables i.group := by
  unfold Instr.wellFormed Instr.shiftOk Instr.incdecOk Instr.nopOk Instr.idxOk
  cases i.group <;> simp [Config.enables, Bool.and_comm]

/-- Enabling a group enables it. -/
@[simp] theorem enables_enabling (cfg : Config) (g : Group) : (cfg.enabling g).enables g = true := by
  cases g <;> rfl

/-- The full configuration has every group (30_encoding.md R101). -/
@[simp] theorem enables_full (g : Group) : Config.full.enables g = true := by
  cases g <;> rfl

end Sys2Proof
end

