-- ==== Sys2Proof/Laws/Memory.lean ====
section
/-! SUPPORT. The laws of memory (20_memory.md R60, R64): a read after a write, and the canonical form, which every
memory operation keeps. -/

namespace Sys2Proof.Machine

theorem Mem.read_erase_same (m : Mem) (k : Nat) : Mem.read (Mem.erase m k) k = 0x00#8 := by
  induction m with
  | nil => rfl
  | cons c m ih =>
    obtain ⟨k', v'⟩ := c
    by_cases h : k' = k <;> simp [Mem.erase, Mem.read, h, ih]

theorem Mem.read_erase_ne (m : Mem) {k j : Nat} (hj : j ≠ k) : Mem.read (Mem.erase m k) j = Mem.read m j := by
  induction m with
  | nil => rfl
  | cons c m ih =>
    obtain ⟨k', v'⟩ := c
    by_cases h : k' = k
    · subst h; simp [Mem.erase, Mem.read, ih, hj.symm]
    · simp [Mem.erase, Mem.read, h, ih]

theorem Mem.read_insert_same (m : Mem) (k : Nat) (v : Byte) : Mem.read (Mem.insert m k v) k = v := by
  induction m with
  | nil => simp [Mem.insert, Mem.read]
  | cons c m ih =>
    obtain ⟨k', v'⟩ := c
    by_cases hlt : k < k'
    · simp [Mem.insert, Mem.read, hlt]
    · by_cases h : k' = k <;> simp [Mem.insert, Mem.read, hlt, h, ih]

theorem Mem.read_insert_ne (m : Mem) {k j : Nat} (v : Byte) (hj : j ≠ k) :
    Mem.read (Mem.insert m k v) j = Mem.read m j := by
  induction m with
  | nil => simp [Mem.insert, Mem.read, hj.symm]
  | cons c m ih =>
    obtain ⟨k', v'⟩ := c
    by_cases hlt : k < k'
    · simp [Mem.insert, Mem.read, hlt, hj.symm]
    · by_cases h : k' = k
      · subst h; simp [Mem.insert, Mem.read, hj.symm]
      · simp [Mem.insert, Mem.read, hlt, h, ih]

/-- A read after a write to the same address gives the byte written. -/
@[simp] theorem Mem.read_write_same (m : Mem) (k : Nat) (v : Byte) : Mem.read (Mem.write m k v) k = v := by
  by_cases h : v = 0x00#8
  · rw [Mem.write, if_pos h, Mem.read_erase_same, h]
  · rw [Mem.write, if_neg h, Mem.read_insert_same]

/-- A write leaves every other address alone. -/
theorem Mem.read_write_ne (m : Mem) {k j : Nat} (v : Byte) (hj : j ≠ k) :
    Mem.read (Mem.write m k v) j = Mem.read m j := by
  by_cases h : v = 0x00#8
  · rw [Mem.write, if_pos h, Mem.read_erase_ne m hj]
  · rw [Mem.write, if_neg h, Mem.read_insert_ne m v hj]

theorem Mem.wfFrom_mono {lo lo' : Nat} (h : lo' ≤ lo) {m : Mem} (hm : Mem.wfFrom lo m = true) :
    Mem.wfFrom lo' m = true := by
  cases m with
  | nil => rfl
  | cons c m =>
    simp only [Mem.wfFrom, Bool.and_eq_true, decide_eq_true_eq] at hm ⊢
    exact ⟨⟨⟨by omega, hm.1.1.2⟩, hm.1.2⟩, hm.2⟩

theorem Mem.wfFrom_erase (k : Nat) {m : Mem} : ∀ {lo : Nat}, Mem.wfFrom lo m = true →
    Mem.wfFrom lo (Mem.erase m k) = true := by
  induction m with
  | nil => intro lo _; rfl
  | cons c m ih =>
    obtain ⟨k', v'⟩ := c
    intro lo hm
    simp only [Mem.wfFrom, Bool.and_eq_true, decide_eq_true_eq] at hm
    by_cases h : k' = k
    · simp only [Mem.erase, h, if_true]
      exact Mem.wfFrom_mono (by omega) (ih hm.2)
    · simp only [Mem.erase, h, if_false, Mem.wfFrom, Bool.and_eq_true, decide_eq_true_eq]
      exact ⟨hm.1, ih hm.2⟩

theorem Mem.wfFrom_insert {k : Nat} {v : Byte} (hk : k < 65536) (hv : v ≠ 0x00#8) {m : Mem} :
    ∀ {lo : Nat}, lo ≤ k → Mem.wfFrom lo m = true → Mem.wfFrom lo (Mem.insert m k v) = true := by
  induction m with
  | nil => intro lo hlo _; simp [Mem.insert, Mem.wfFrom, hlo, hk, hv]
  | cons c m ih =>
    obtain ⟨k', v'⟩ := c
    intro lo hlo hm
    simp only [Mem.wfFrom, Bool.and_eq_true, decide_eq_true_eq] at hm
    by_cases hlt : k < k'
    · simp only [Mem.insert, hlt, if_true, Mem.wfFrom, Bool.and_eq_true, decide_eq_true_eq]
      exact ⟨⟨⟨hlo, hk⟩, hv⟩, ⟨⟨by omega, hm.1.1.2⟩, hm.1.2⟩, hm.2⟩
    · by_cases h : k' = k
      · rw [Mem.insert, if_neg hlt, if_pos h]
        simp only [Mem.wfFrom, Bool.and_eq_true, decide_eq_true_eq]
        exact ⟨⟨⟨hlo, hk⟩, hv⟩, h ▸ hm.2⟩
      · simp only [Mem.insert, hlt, h, if_false, Mem.wfFrom, Bool.and_eq_true, decide_eq_true_eq]
        exact ⟨hm.1, ih (by omega) hm.2⟩

/-- A write keeps the canonical form. -/
theorem Mem.wf_write {m : Mem} {k : Nat} (v : Byte) (hk : k < 65536) (hm : Mem.wf m = true) :
    Mem.wf (Mem.write m k v) = true := by
  by_cases h : v = 0x00#8
  · rw [Mem.write, if_pos h]; exact Mem.wfFrom_erase k hm
  · rw [Mem.write, if_neg h]; exact Mem.wfFrom_insert hk h (Nat.zero_le k) hm

/-- Reset's memory has the canonical form. -/
theorem Mem.wf_nil : Mem.wf [] = true := rfl

end Sys2Proof.Machine
end

