-- ==== Sys2Proof/Laws/State.lean ====
section
/-! SUPPORT. The fields of the state after each named update: one lemma per field an update leaves alone, and one per
field it writes whose new value has a short form. The operations made of others (pushWord, pullWord,
takeInterrupt, returnFromInterrupt) follow from those; the rest hold by rfl. -/

namespace Sys2Proof.Machine

variable (s : State)

/-! ### write -/

@[simp] theorem State.write_a (addr : Word) (v : Byte) : (s.write addr v).a = s.a := rfl
@[simp] theorem State.write_x (addr : Word) (v : Byte) : (s.write addr v).x = s.x := rfl
@[simp] theorem State.write_y (addr : Word) (v : Byte) : (s.write addr v).y = s.y := rfl
@[simp] theorem State.write_sp (addr : Word) (v : Byte) : (s.write addr v).sp = s.sp := rfl
@[simp] theorem State.write_pc (addr : Word) (v : Byte) : (s.write addr v).pc = s.pc := rfl
@[simp] theorem State.write_flagN (addr : Word) (v : Byte) : (s.write addr v).flagN = s.flagN := rfl
@[simp] theorem State.write_flagV (addr : Word) (v : Byte) : (s.write addr v).flagV = s.flagV := rfl
@[simp] theorem State.write_flagB (addr : Word) (v : Byte) : (s.write addr v).flagB = s.flagB := rfl
@[simp] theorem State.write_flagD (addr : Word) (v : Byte) : (s.write addr v).flagD = s.flagD := rfl
@[simp] theorem State.write_flagI (addr : Word) (v : Byte) : (s.write addr v).flagI = s.flagI := rfl
@[simp] theorem State.write_flagZ (addr : Word) (v : Byte) : (s.write addr v).flagZ = s.flagZ := rfl
@[simp] theorem State.write_flagC (addr : Word) (v : Byte) : (s.write addr v).flagC = s.flagC := rfl
@[simp] theorem State.write_fault (addr : Word) (v : Byte) : (s.write addr v).fault = s.fault := rfl
@[simp] theorem State.write_cfg (addr : Word) (v : Byte) : (s.write addr v).cfg = s.cfg := rfl
@[simp] theorem State.write_mem (addr : Word) (v : Byte) : (s.write addr v).mem = (Mem.write s.mem addr.toNat v) := rfl

/-! ### advance -/

@[simp] theorem State.advance_a (n : Nat) : (State.advance n s).a = s.a := rfl
@[simp] theorem State.advance_x (n : Nat) : (State.advance n s).x = s.x := rfl
@[simp] theorem State.advance_y (n : Nat) : (State.advance n s).y = s.y := rfl
@[simp] theorem State.advance_sp (n : Nat) : (State.advance n s).sp = s.sp := rfl
@[simp] theorem State.advance_flagN (n : Nat) : (State.advance n s).flagN = s.flagN := rfl
@[simp] theorem State.advance_flagV (n : Nat) : (State.advance n s).flagV = s.flagV := rfl
@[simp] theorem State.advance_flagB (n : Nat) : (State.advance n s).flagB = s.flagB := rfl
@[simp] theorem State.advance_flagD (n : Nat) : (State.advance n s).flagD = s.flagD := rfl
@[simp] theorem State.advance_flagI (n : Nat) : (State.advance n s).flagI = s.flagI := rfl
@[simp] theorem State.advance_flagZ (n : Nat) : (State.advance n s).flagZ = s.flagZ := rfl
@[simp] theorem State.advance_flagC (n : Nat) : (State.advance n s).flagC = s.flagC := rfl
@[simp] theorem State.advance_fault (n : Nat) : (State.advance n s).fault = s.fault := rfl
@[simp] theorem State.advance_mem (n : Nat) : (State.advance n s).mem = s.mem := rfl
@[simp] theorem State.advance_cfg (n : Nat) : (State.advance n s).cfg = s.cfg := rfl
@[simp] theorem State.advance_read (n : Nat) (k : Word) : (State.advance n s).read k = s.read k := rfl
@[simp] theorem State.advance_pc (n : Nat) : (State.advance n s).pc = (s.pc + BitVec.ofNat 16 n) := rfl

/-! ### push -/

@[simp] theorem State.push_a (v : Byte) : (s.push v).a = s.a := rfl
@[simp] theorem State.push_x (v : Byte) : (s.push v).x = s.x := rfl
@[simp] theorem State.push_y (v : Byte) : (s.push v).y = s.y := rfl
@[simp] theorem State.push_pc (v : Byte) : (s.push v).pc = s.pc := rfl
@[simp] theorem State.push_flagN (v : Byte) : (s.push v).flagN = s.flagN := rfl
@[simp] theorem State.push_flagV (v : Byte) : (s.push v).flagV = s.flagV := rfl
@[simp] theorem State.push_flagB (v : Byte) : (s.push v).flagB = s.flagB := rfl
@[simp] theorem State.push_flagD (v : Byte) : (s.push v).flagD = s.flagD := rfl
@[simp] theorem State.push_flagI (v : Byte) : (s.push v).flagI = s.flagI := rfl
@[simp] theorem State.push_flagZ (v : Byte) : (s.push v).flagZ = s.flagZ := rfl
@[simp] theorem State.push_flagC (v : Byte) : (s.push v).flagC = s.flagC := rfl
@[simp] theorem State.push_fault (v : Byte) : (s.push v).fault = s.fault := rfl
@[simp] theorem State.push_cfg (v : Byte) : (s.push v).cfg = s.cfg := rfl
@[simp] theorem State.push_sp (v : Byte) : (s.push v).sp = (s.sp - 1) := rfl
@[simp] theorem State.push_mem (v : Byte) : (s.push v).mem = (Mem.write s.mem (stackAddr s.sp).toNat v) := rfl

/-! ### pull -/

@[simp] theorem State.pull_a : s.pull.2.a = s.a := rfl
@[simp] theorem State.pull_x : s.pull.2.x = s.x := rfl
@[simp] theorem State.pull_y : s.pull.2.y = s.y := rfl
@[simp] theorem State.pull_pc : s.pull.2.pc = s.pc := rfl
@[simp] theorem State.pull_flagN : s.pull.2.flagN = s.flagN := rfl
@[simp] theorem State.pull_flagV : s.pull.2.flagV = s.flagV := rfl
@[simp] theorem State.pull_flagB : s.pull.2.flagB = s.flagB := rfl
@[simp] theorem State.pull_flagD : s.pull.2.flagD = s.flagD := rfl
@[simp] theorem State.pull_flagI : s.pull.2.flagI = s.flagI := rfl
@[simp] theorem State.pull_flagZ : s.pull.2.flagZ = s.flagZ := rfl
@[simp] theorem State.pull_flagC : s.pull.2.flagC = s.flagC := rfl
@[simp] theorem State.pull_fault : s.pull.2.fault = s.fault := rfl
@[simp] theorem State.pull_mem : s.pull.2.mem = s.mem := rfl
@[simp] theorem State.pull_cfg : s.pull.2.cfg = s.cfg := rfl
@[simp] theorem State.pull_read (k : Word) : s.pull.2.read k = s.read k := rfl
@[simp] theorem State.pull_sp : s.pull.2.sp = (s.sp + 1) := rfl

/-! ### pushWord -/

@[simp] theorem State.pushWord_a (w : Word) : (s.pushWord w).a = s.a := by simp [State.pushWord]
@[simp] theorem State.pushWord_x (w : Word) : (s.pushWord w).x = s.x := by simp [State.pushWord]
@[simp] theorem State.pushWord_y (w : Word) : (s.pushWord w).y = s.y := by simp [State.pushWord]
@[simp] theorem State.pushWord_pc (w : Word) : (s.pushWord w).pc = s.pc := by simp [State.pushWord]
@[simp] theorem State.pushWord_flagN (w : Word) : (s.pushWord w).flagN = s.flagN := by simp [State.pushWord]
@[simp] theorem State.pushWord_flagV (w : Word) : (s.pushWord w).flagV = s.flagV := by simp [State.pushWord]
@[simp] theorem State.pushWord_flagB (w : Word) : (s.pushWord w).flagB = s.flagB := by simp [State.pushWord]
@[simp] theorem State.pushWord_flagD (w : Word) : (s.pushWord w).flagD = s.flagD := by simp [State.pushWord]
@[simp] theorem State.pushWord_flagI (w : Word) : (s.pushWord w).flagI = s.flagI := by simp [State.pushWord]
@[simp] theorem State.pushWord_flagZ (w : Word) : (s.pushWord w).flagZ = s.flagZ := by simp [State.pushWord]
@[simp] theorem State.pushWord_flagC (w : Word) : (s.pushWord w).flagC = s.flagC := by simp [State.pushWord]
@[simp] theorem State.pushWord_fault (w : Word) : (s.pushWord w).fault = s.fault := by simp [State.pushWord]
@[simp] theorem State.pushWord_cfg (w : Word) : (s.pushWord w).cfg = s.cfg := by simp [State.pushWord]
@[simp] theorem State.pushWord_sp (w : Word) : (s.pushWord w).sp = (s.sp - 1 - 1) := by simp [State.pushWord]

/-! ### pullWord -/

@[simp] theorem State.pullWord_a : s.pullWord.2.a = s.a := by simp [State.pullWord]
@[simp] theorem State.pullWord_x : s.pullWord.2.x = s.x := by simp [State.pullWord]
@[simp] theorem State.pullWord_y : s.pullWord.2.y = s.y := by simp [State.pullWord]
@[simp] theorem State.pullWord_pc : s.pullWord.2.pc = s.pc := by simp [State.pullWord]
@[simp] theorem State.pullWord_flagN : s.pullWord.2.flagN = s.flagN := by simp [State.pullWord]
@[simp] theorem State.pullWord_flagV : s.pullWord.2.flagV = s.flagV := by simp [State.pullWord]
@[simp] theorem State.pullWord_flagB : s.pullWord.2.flagB = s.flagB := by simp [State.pullWord]
@[simp] theorem State.pullWord_flagD : s.pullWord.2.flagD = s.flagD := by simp [State.pullWord]
@[simp] theorem State.pullWord_flagI : s.pullWord.2.flagI = s.flagI := by simp [State.pullWord]
@[simp] theorem State.pullWord_flagZ : s.pullWord.2.flagZ = s.flagZ := by simp [State.pullWord]
@[simp] theorem State.pullWord_flagC : s.pullWord.2.flagC = s.flagC := by simp [State.pullWord]
@[simp] theorem State.pullWord_fault : s.pullWord.2.fault = s.fault := by simp [State.pullWord]
@[simp] theorem State.pullWord_mem : s.pullWord.2.mem = s.mem := by simp [State.pullWord]
@[simp] theorem State.pullWord_cfg : s.pullWord.2.cfg = s.cfg := by simp [State.pullWord]
@[simp] theorem State.pullWord_read (k : Word) : s.pullWord.2.read k = s.read k := by simp [State.read]
@[simp] theorem State.pullWord_sp : s.pullWord.2.sp = (s.sp + 1 + 1) := by simp [State.pullWord]

/-! ### loadP -/

@[simp] theorem State.loadP_a (p : Byte) : (s.loadP p).a = s.a := rfl
@[simp] theorem State.loadP_x (p : Byte) : (s.loadP p).x = s.x := rfl
@[simp] theorem State.loadP_y (p : Byte) : (s.loadP p).y = s.y := rfl
@[simp] theorem State.loadP_sp (p : Byte) : (s.loadP p).sp = s.sp := rfl
@[simp] theorem State.loadP_pc (p : Byte) : (s.loadP p).pc = s.pc := rfl
@[simp] theorem State.loadP_fault (p : Byte) : (s.loadP p).fault = s.fault := rfl
@[simp] theorem State.loadP_mem (p : Byte) : (s.loadP p).mem = s.mem := rfl
@[simp] theorem State.loadP_cfg (p : Byte) : (s.loadP p).cfg = s.cfg := rfl
@[simp] theorem State.loadP_read (p : Byte) (k : Word) : (s.loadP p).read k = s.read k := rfl
@[simp] theorem State.loadP_flagN (p : Byte) : (s.loadP p).flagN = (p.getLsbD 7) := rfl
@[simp] theorem State.loadP_flagV (p : Byte) : (s.loadP p).flagV = (p.getLsbD 6) := rfl
@[simp] theorem State.loadP_flagB (p : Byte) : (s.loadP p).flagB = (p.getLsbD 4) := rfl
@[simp] theorem State.loadP_flagD (p : Byte) : (s.loadP p).flagD = (p.getLsbD 3) := rfl
@[simp] theorem State.loadP_flagI (p : Byte) : (s.loadP p).flagI = (p.getLsbD 2) := rfl
@[simp] theorem State.loadP_flagZ (p : Byte) : (s.loadP p).flagZ = (p.getLsbD 1) := rfl
@[simp] theorem State.loadP_flagC (p : Byte) : (s.loadP p).flagC = (p.getLsbD 0) := rfl

/-! ### setNZ -/

@[simp] theorem State.setNZ_a (v : Byte) : (s.setNZ v).a = s.a := rfl
@[simp] theorem State.setNZ_x (v : Byte) : (s.setNZ v).x = s.x := rfl
@[simp] theorem State.setNZ_y (v : Byte) : (s.setNZ v).y = s.y := rfl
@[simp] theorem State.setNZ_sp (v : Byte) : (s.setNZ v).sp = s.sp := rfl
@[simp] theorem State.setNZ_pc (v : Byte) : (s.setNZ v).pc = s.pc := rfl
@[simp] theorem State.setNZ_flagV (v : Byte) : (s.setNZ v).flagV = s.flagV := rfl
@[simp] theorem State.setNZ_flagB (v : Byte) : (s.setNZ v).flagB = s.flagB := rfl
@[simp] theorem State.setNZ_flagD (v : Byte) : (s.setNZ v).flagD = s.flagD := rfl
@[simp] theorem State.setNZ_flagI (v : Byte) : (s.setNZ v).flagI = s.flagI := rfl
@[simp] theorem State.setNZ_flagC (v : Byte) : (s.setNZ v).flagC = s.flagC := rfl
@[simp] theorem State.setNZ_fault (v : Byte) : (s.setNZ v).fault = s.fault := rfl
@[simp] theorem State.setNZ_mem (v : Byte) : (s.setNZ v).mem = s.mem := rfl
@[simp] theorem State.setNZ_cfg (v : Byte) : (s.setNZ v).cfg = s.cfg := rfl
@[simp] theorem State.setNZ_read (v : Byte) (k : Word) : (s.setNZ v).read k = s.read k := rfl
@[simp] theorem State.setNZ_flagZ (v : Byte) : (s.setNZ v).flagZ = (decide (v = 0x00#8)) := rfl
@[simp] theorem State.setNZ_flagN (v : Byte) : (s.setNZ v).flagN = (v.getLsbD 7) := rfl

/-! ### setCNZ -/

@[simp] theorem State.setCNZ_a (c : Bool) (r : Byte) : (s.setCNZ c r).a = s.a := rfl
@[simp] theorem State.setCNZ_x (c : Bool) (r : Byte) : (s.setCNZ c r).x = s.x := rfl
@[simp] theorem State.setCNZ_y (c : Bool) (r : Byte) : (s.setCNZ c r).y = s.y := rfl
@[simp] theorem State.setCNZ_sp (c : Bool) (r : Byte) : (s.setCNZ c r).sp = s.sp := rfl
@[simp] theorem State.setCNZ_pc (c : Bool) (r : Byte) : (s.setCNZ c r).pc = s.pc := rfl
@[simp] theorem State.setCNZ_flagV (c : Bool) (r : Byte) : (s.setCNZ c r).flagV = s.flagV := rfl
@[simp] theorem State.setCNZ_flagB (c : Bool) (r : Byte) : (s.setCNZ c r).flagB = s.flagB := rfl
@[simp] theorem State.setCNZ_flagD (c : Bool) (r : Byte) : (s.setCNZ c r).flagD = s.flagD := rfl
@[simp] theorem State.setCNZ_flagI (c : Bool) (r : Byte) : (s.setCNZ c r).flagI = s.flagI := rfl
@[simp] theorem State.setCNZ_fault (c : Bool) (r : Byte) : (s.setCNZ c r).fault = s.fault := rfl
@[simp] theorem State.setCNZ_mem (c : Bool) (r : Byte) : (s.setCNZ c r).mem = s.mem := rfl
@[simp] theorem State.setCNZ_cfg (c : Bool) (r : Byte) : (s.setCNZ c r).cfg = s.cfg := rfl
@[simp] theorem State.setCNZ_read (c : Bool) (r : Byte) (k : Word) : (s.setCNZ c r).read k = s.read k := rfl
@[simp] theorem State.setCNZ_flagC (c : Bool) (r : Byte) : (s.setCNZ c r).flagC = (c) := rfl
@[simp] theorem State.setCNZ_flagZ (c : Bool) (r : Byte) : (s.setCNZ c r).flagZ = (decide (r = 0x00#8)) := rfl
@[simp] theorem State.setCNZ_flagN (c : Bool) (r : Byte) : (s.setCNZ c r).flagN = (r.getLsbD 7) := rfl

/-! ### compare -/

@[simp] theorem State.compare_a (r m : Byte) : (s.compare r m).a = s.a := rfl
@[simp] theorem State.compare_x (r m : Byte) : (s.compare r m).x = s.x := rfl
@[simp] theorem State.compare_y (r m : Byte) : (s.compare r m).y = s.y := rfl
@[simp] theorem State.compare_sp (r m : Byte) : (s.compare r m).sp = s.sp := rfl
@[simp] theorem State.compare_pc (r m : Byte) : (s.compare r m).pc = s.pc := rfl
@[simp] theorem State.compare_flagV (r m : Byte) : (s.compare r m).flagV = s.flagV := rfl
@[simp] theorem State.compare_flagB (r m : Byte) : (s.compare r m).flagB = s.flagB := rfl
@[simp] theorem State.compare_flagD (r m : Byte) : (s.compare r m).flagD = s.flagD := rfl
@[simp] theorem State.compare_flagI (r m : Byte) : (s.compare r m).flagI = s.flagI := rfl
@[simp] theorem State.compare_fault (r m : Byte) : (s.compare r m).fault = s.fault := rfl
@[simp] theorem State.compare_mem (r m : Byte) : (s.compare r m).mem = s.mem := rfl
@[simp] theorem State.compare_cfg (r m : Byte) : (s.compare r m).cfg = s.cfg := rfl
@[simp] theorem State.compare_read (r m : Byte) (k : Word) : (s.compare r m).read k = s.read k := rfl
@[simp] theorem State.compare_flagC (r m : Byte) : (s.compare r m).flagC = (decide (m.toNat ≤ r.toNat)) := rfl
@[simp] theorem State.compare_flagZ (r m : Byte) : (s.compare r m).flagZ = (decide (r - m = 0x00#8)) := rfl
@[simp] theorem State.compare_flagN (r m : Byte) : (s.compare r m).flagN = ((r - m).getLsbD 7) := rfl

/-! ### addWithCarry -/

@[simp] theorem State.addWithCarry_x (m : Byte) : (s.addWithCarry m).x = s.x := rfl
@[simp] theorem State.addWithCarry_y (m : Byte) : (s.addWithCarry m).y = s.y := rfl
@[simp] theorem State.addWithCarry_sp (m : Byte) : (s.addWithCarry m).sp = s.sp := rfl
@[simp] theorem State.addWithCarry_pc (m : Byte) : (s.addWithCarry m).pc = s.pc := rfl
@[simp] theorem State.addWithCarry_flagB (m : Byte) : (s.addWithCarry m).flagB = s.flagB := rfl
@[simp] theorem State.addWithCarry_flagD (m : Byte) : (s.addWithCarry m).flagD = s.flagD := rfl
@[simp] theorem State.addWithCarry_flagI (m : Byte) : (s.addWithCarry m).flagI = s.flagI := rfl
@[simp] theorem State.addWithCarry_fault (m : Byte) : (s.addWithCarry m).fault = s.fault := rfl
@[simp] theorem State.addWithCarry_mem (m : Byte) : (s.addWithCarry m).mem = s.mem := rfl
@[simp] theorem State.addWithCarry_cfg (m : Byte) : (s.addWithCarry m).cfg = s.cfg := rfl
@[simp] theorem State.addWithCarry_read (m : Byte) (k : Word) : (s.addWithCarry m).read k = s.read k := rfl
@[simp] theorem State.addWithCarry_a (m : Byte) : (s.addWithCarry m).a = (BitVec.ofNat 8 (sum9 s.a m s.flagC)) := rfl
@[simp] theorem State.addWithCarry_flagC (m : Byte) : (s.addWithCarry m).flagC = (decide (sum9 s.a m s.flagC > 255)) := rfl
@[simp] theorem State.addWithCarry_flagV (m : Byte) : (s.addWithCarry m).flagV = (addOverflow s.a m (BitVec.ofNat 8 (sum9 s.a m s.flagC))) := rfl

/-! ### bitTest -/

@[simp] theorem State.bitTest_a (m : Byte) : (s.bitTest m).a = s.a := rfl
@[simp] theorem State.bitTest_x (m : Byte) : (s.bitTest m).x = s.x := rfl
@[simp] theorem State.bitTest_y (m : Byte) : (s.bitTest m).y = s.y := rfl
@[simp] theorem State.bitTest_sp (m : Byte) : (s.bitTest m).sp = s.sp := rfl
@[simp] theorem State.bitTest_pc (m : Byte) : (s.bitTest m).pc = s.pc := rfl
@[simp] theorem State.bitTest_flagB (m : Byte) : (s.bitTest m).flagB = s.flagB := rfl
@[simp] theorem State.bitTest_flagD (m : Byte) : (s.bitTest m).flagD = s.flagD := rfl
@[simp] theorem State.bitTest_flagI (m : Byte) : (s.bitTest m).flagI = s.flagI := rfl
@[simp] theorem State.bitTest_flagC (m : Byte) : (s.bitTest m).flagC = s.flagC := rfl
@[simp] theorem State.bitTest_fault (m : Byte) : (s.bitTest m).fault = s.fault := rfl
@[simp] theorem State.bitTest_mem (m : Byte) : (s.bitTest m).mem = s.mem := rfl
@[simp] theorem State.bitTest_cfg (m : Byte) : (s.bitTest m).cfg = s.cfg := rfl
@[simp] theorem State.bitTest_read (m : Byte) (k : Word) : (s.bitTest m).read k = s.read k := rfl
@[simp] theorem State.bitTest_flagZ (m : Byte) : (s.bitTest m).flagZ = (decide (s.a &&& m = 0x00#8)) := rfl
@[simp] theorem State.bitTest_flagN (m : Byte) : (s.bitTest m).flagN = (m.getLsbD 7) := rfl
@[simp] theorem State.bitTest_flagV (m : Byte) : (s.bitTest m).flagV = (m.getLsbD 6) := rfl

/-! ### branch -/

@[simp] theorem State.branch_a (c : Bool) (d : Byte) : (s.branch c d).a = s.a := rfl
@[simp] theorem State.branch_x (c : Bool) (d : Byte) : (s.branch c d).x = s.x := rfl
@[simp] theorem State.branch_y (c : Bool) (d : Byte) : (s.branch c d).y = s.y := rfl
@[simp] theorem State.branch_sp (c : Bool) (d : Byte) : (s.branch c d).sp = s.sp := rfl
@[simp] theorem State.branch_flagN (c : Bool) (d : Byte) : (s.branch c d).flagN = s.flagN := rfl
@[simp] theorem State.branch_flagV (c : Bool) (d : Byte) : (s.branch c d).flagV = s.flagV := rfl
@[simp] theorem State.branch_flagB (c : Bool) (d : Byte) : (s.branch c d).flagB = s.flagB := rfl
@[simp] theorem State.branch_flagD (c : Bool) (d : Byte) : (s.branch c d).flagD = s.flagD := rfl
@[simp] theorem State.branch_flagI (c : Bool) (d : Byte) : (s.branch c d).flagI = s.flagI := rfl
@[simp] theorem State.branch_flagZ (c : Bool) (d : Byte) : (s.branch c d).flagZ = s.flagZ := rfl
@[simp] theorem State.branch_flagC (c : Bool) (d : Byte) : (s.branch c d).flagC = s.flagC := rfl
@[simp] theorem State.branch_fault (c : Bool) (d : Byte) : (s.branch c d).fault = s.fault := rfl
@[simp] theorem State.branch_mem (c : Bool) (d : Byte) : (s.branch c d).mem = s.mem := rfl
@[simp] theorem State.branch_cfg (c : Bool) (d : Byte) : (s.branch c d).cfg = s.cfg := rfl
@[simp] theorem State.branch_read (c : Bool) (d : Byte) (k : Word) : (s.branch c d).read k = s.read k := rfl
@[simp] theorem State.branch_pc (c : Bool) (d : Byte) : (s.branch c d).pc = (if c then branchTarget s.pc d else s.pc + 2) := rfl

/-! ### takeInterrupt -/

@[simp] theorem State.takeInterrupt_a (ret : Word) : (s.takeInterrupt ret).a = s.a := by simp [State.takeInterrupt]
@[simp] theorem State.takeInterrupt_x (ret : Word) : (s.takeInterrupt ret).x = s.x := by simp [State.takeInterrupt]
@[simp] theorem State.takeInterrupt_y (ret : Word) : (s.takeInterrupt ret).y = s.y := by simp [State.takeInterrupt]
@[simp] theorem State.takeInterrupt_flagN (ret : Word) : (s.takeInterrupt ret).flagN = s.flagN := by simp [State.takeInterrupt]
@[simp] theorem State.takeInterrupt_flagV (ret : Word) : (s.takeInterrupt ret).flagV = s.flagV := by simp [State.takeInterrupt]
@[simp] theorem State.takeInterrupt_flagD (ret : Word) : (s.takeInterrupt ret).flagD = s.flagD := by simp [State.takeInterrupt]
@[simp] theorem State.takeInterrupt_flagZ (ret : Word) : (s.takeInterrupt ret).flagZ = s.flagZ := by simp [State.takeInterrupt]
@[simp] theorem State.takeInterrupt_flagC (ret : Word) : (s.takeInterrupt ret).flagC = s.flagC := by simp [State.takeInterrupt]
@[simp] theorem State.takeInterrupt_fault (ret : Word) : (s.takeInterrupt ret).fault = s.fault := by simp [State.takeInterrupt]
@[simp] theorem State.takeInterrupt_cfg (ret : Word) : (s.takeInterrupt ret).cfg = s.cfg := by simp [State.takeInterrupt]
@[simp] theorem State.takeInterrupt_flagB (ret : Word) : (s.takeInterrupt ret).flagB = (true) := by simp [State.takeInterrupt]
@[simp] theorem State.takeInterrupt_flagI (ret : Word) : (s.takeInterrupt ret).flagI = (true) := by simp [State.takeInterrupt]
@[simp] theorem State.takeInterrupt_sp (ret : Word) : (s.takeInterrupt ret).sp = (s.sp - 1 - 1 - 1) := by simp [State.takeInterrupt]

/-! ### returnFromInterrupt -/

@[simp] theorem State.returnFromInterrupt_a : s.returnFromInterrupt.a = s.a := by simp [State.returnFromInterrupt]
@[simp] theorem State.returnFromInterrupt_x : s.returnFromInterrupt.x = s.x := by simp [State.returnFromInterrupt]
@[simp] theorem State.returnFromInterrupt_y : s.returnFromInterrupt.y = s.y := by simp [State.returnFromInterrupt]
@[simp] theorem State.returnFromInterrupt_fault : s.returnFromInterrupt.fault = s.fault := by simp [State.returnFromInterrupt]
@[simp] theorem State.returnFromInterrupt_mem : s.returnFromInterrupt.mem = s.mem := by simp [State.returnFromInterrupt]
@[simp] theorem State.returnFromInterrupt_cfg : s.returnFromInterrupt.cfg = s.cfg := by simp [State.returnFromInterrupt]
@[simp] theorem State.returnFromInterrupt_read (k : Word) : s.returnFromInterrupt.read k = s.read k := by simp [State.read]
@[simp] theorem State.returnFromInterrupt_sp : s.returnFromInterrupt.sp = (s.sp + 1 + 1 + 1) := by simp [State.returnFromInterrupt]

/-! ### latchFault -/

@[simp] theorem State.latchFault_a (op : Byte) (pc : Word) : (s.latchFault op pc).a = s.a := rfl
@[simp] theorem State.latchFault_x (op : Byte) (pc : Word) : (s.latchFault op pc).x = s.x := rfl
@[simp] theorem State.latchFault_y (op : Byte) (pc : Word) : (s.latchFault op pc).y = s.y := rfl
@[simp] theorem State.latchFault_sp (op : Byte) (pc : Word) : (s.latchFault op pc).sp = s.sp := rfl
@[simp] theorem State.latchFault_pc (op : Byte) (pc : Word) : (s.latchFault op pc).pc = s.pc := rfl
@[simp] theorem State.latchFault_flagN (op : Byte) (pc : Word) : (s.latchFault op pc).flagN = s.flagN := rfl
@[simp] theorem State.latchFault_flagV (op : Byte) (pc : Word) : (s.latchFault op pc).flagV = s.flagV := rfl
@[simp] theorem State.latchFault_flagB (op : Byte) (pc : Word) : (s.latchFault op pc).flagB = s.flagB := rfl
@[simp] theorem State.latchFault_flagD (op : Byte) (pc : Word) : (s.latchFault op pc).flagD = s.flagD := rfl
@[simp] theorem State.latchFault_flagI (op : Byte) (pc : Word) : (s.latchFault op pc).flagI = s.flagI := rfl
@[simp] theorem State.latchFault_flagZ (op : Byte) (pc : Word) : (s.latchFault op pc).flagZ = s.flagZ := rfl
@[simp] theorem State.latchFault_flagC (op : Byte) (pc : Word) : (s.latchFault op pc).flagC = s.flagC := rfl
@[simp] theorem State.latchFault_mem (op : Byte) (pc : Word) : (s.latchFault op pc).mem = s.mem := rfl
@[simp] theorem State.latchFault_cfg (op : Byte) (pc : Word) : (s.latchFault op pc).cfg = s.cfg := rfl
@[simp] theorem State.latchFault_read (op : Byte) (pc : Word) (k : Word) : (s.latchFault op pc).read k = s.read k := rfl
@[simp] theorem State.latchFault_fault (op : Byte) (pc : Word) : (s.latchFault op pc).fault = (some ⟨op, pc⟩) := rfl

/-! ### resetCore -/

@[simp] theorem State.resetCore_cfg : s.resetCore.cfg = s.cfg := rfl
@[simp] theorem State.resetCore_fault : s.resetCore.fault = (none) := rfl
@[simp] theorem State.resetCore_mem : s.resetCore.mem = ([]) := rfl

end Sys2Proof.Machine
end

