-- ==== Sys2Proof/Laws/Ops.lean ====
section
/-! SUPPORT. What each shared operation can do, said once: byte accesses, the stack, the fetch, the answers of `finish`
and of `step`, and that the operations keep the canonical form of memory. -/

namespace Sys2Proof.Machine

/-! ### Byte accesses (20_memory.md R60) -/

/-- A read depends on memory alone. -/
theorem State.read_congr {s t : State} (h : s.mem = t.mem) (addr : Word) : s.read addr = t.read addr := by
  rw [State.read, State.read, h]

@[simp] theorem State.read_write_same (s : State) (addr : Word) (v : Byte) : (s.write addr v).read addr = v :=
  Mem.read_write_same _ _ _

theorem State.read_write_ne (s : State) {addr k : Word} (v : Byte) (h : k ≠ addr) :
    (s.write addr v).read k = s.read k :=
  Mem.read_write_ne _ _ fun e => h (BitVec.eq_of_toNat_eq e)

/-- What a write leaves at every address. -/
theorem State.read_write (s : State) (addr k : Word) (v : Byte) :
    (s.write addr v).read k = if k = addr then v else s.read k := by
  split
  · next h => rw [h, State.read_write_same]
  · next h => exact State.read_write_ne s v h

/-! ### The stack (46_stack.md R240, R241, R247) -/

theorem stackAddr_toNat (sp : Byte) : (stackAddr sp).toNat = 0x0100 + sp.toNat := by
  have := sp.isLt
  simp only [stackAddr, BitVec.toNat_add, zext16_toNat, BitVec.toNat_ofNat]
  omega

theorem stackAddr_inj {p q : Byte} : stackAddr p = stackAddr q ↔ p = q := by
  constructor
  · intro h
    have := congrArg BitVec.toNat h
    rw [stackAddr_toNat, stackAddr_toNat] at this
    exact BitVec.eq_of_toNat_eq (by omega)
  · rintro rfl; rfl

/-- What a push leaves at every address: its byte at the stack pointer, all else as before. -/
theorem State.read_push (s : State) (v : Byte) (k : Word) :
    (s.push v).read k = if k = stackAddr s.sp then v else s.read k :=
  State.read_write s _ _ _

/-- The byte a pull answers. -/
@[simp] theorem State.pull_value (s : State) : s.pull.1 = s.read (stackAddr (s.sp + 1)) := rfl

/-- The word a 16-bit pull answers. -/
@[simp] theorem State.pullWord_value (s : State) :
    s.pullWord.1 = wordOf (s.read (stackAddr (s.sp + 1 + 1))) (s.read (stackAddr (s.sp + 1))) := rfl

/-- What pushing a word leaves at every address: high byte at SP, low byte below it. -/
theorem State.read_pushWord (s : State) (w k : Word) :
    (s.pushWord w).read k = if k = stackAddr (s.sp - 1) then loByte w
      else if k = stackAddr s.sp then hiByte w else s.read k := by
  simp [State.pushWord, State.read_push]

/-- What taking the software interrupt leaves at every address: the return address, then the status byte with B = 1, in
the three stack bytes. -/
theorem State.read_takeInterrupt (s : State) (ret k : Word) :
    (s.takeInterrupt ret).read k = if k = stackAddr (s.sp - 1 - 1) then ({ s with flagB := true } : State).statusByte
      else if k = stackAddr (s.sp - 1) then loByte ret else if k = stackAddr s.sp then hiByte ret else s.read k := by
  have h : (s.takeInterrupt ret).read k = ((({ s with flagB := true } : State).pushWord ret).push
      (({ s with flagB := true } : State).pushWord ret).statusByte).read k := rfl
  rw [h, State.read_push, State.read_pushWord, State.pushWord_sp]
  rfl

/-- A store of bytes changes memory alone. -/
theorem State.storeBytes_eq (bytes : List Byte) : ∀ (s : State) (addr : Word),
    s.storeBytes addr bytes = { s with mem := (s.storeBytes addr bytes).mem } := by
  induction bytes with
  | nil => intro s addr; rfl
  | cons b bs ih => intro s addr; rw [State.storeBytes, ih]; rfl

/-! ### Canonical memory -/

theorem State.write_inv {s : State} (addr : Word) (v : Byte) (h : s.Inv) : (s.write addr v).Inv :=
  Mem.wf_write v addr.isLt h

/-- The invariant speaks of memory alone. -/
theorem State.inv_congr {s t : State} (h : s.mem = t.mem) : s.Inv ↔ t.Inv := by
  rw [State.Inv, State.Inv, h]

theorem State.push_inv {s : State} (v : Byte) (h : s.Inv) : (s.push v).Inv :=
  (State.inv_congr (t := s.write (stackAddr s.sp) v) rfl).2 (State.write_inv _ v h)

theorem State.pushWord_inv {s : State} (w : Word) (h : s.Inv) : (s.pushWord w).Inv :=
  State.push_inv _ (State.push_inv _ h)

theorem State.takeInterrupt_inv {s : State} (ret : Word) (h : s.Inv) : (s.takeInterrupt ret).Inv := by
  have hb : State.Inv { s with flagB := true } := h
  exact (State.inv_congr (s := s.takeInterrupt ret) rfl).2 (State.push_inv _ (State.pushWord_inv ret hb))

theorem State.storeBytes_inv (bytes : List Byte) : ∀ {s : State} (addr : Word), s.Inv →
    (s.storeBytes addr bytes).Inv := by
  induction bytes with
  | nil => intro s addr h; exact h
  | cons b bs ih => intro s addr h; exact ih _ (State.write_inv addr b h)

/-! ### Answers -/

/-- An instruction that ends with the default advance answers that state. -/
theorem finish_eq_next {n : Nat} {s t : State} : finish n s = .next t ↔ t = s.advance n := by
  simp [finish, eq_comm]

/-- What a fetch answers: the instruction the bytes at PC decode to. -/
theorem State.fetch_eq_some {s : State} {i : Instr} :
    s.fetch = some i ↔ ∃ rest, decode s.cfg s.fetchBytes = .ok (i, rest) := by
  unfold State.fetch
  rcases h : decode s.cfg s.fetchBytes with e | ⟨j, r⟩ <;> simp

/-- Everything a step can answer (40_sequencer_addressing.md R120, R121; 60_exceptions.md R303). -/
theorem step_cases (s : State) :
    (∃ r, s.fault = some r ∧ step s = .fault (.halted r.opcode r.pc)) ∨
    (∃ i, s.fault = none ∧ s.fetch = some i ∧ step s = exec i s) ∨
    (s.fault = none ∧ s.fetch = none ∧ step s = .fault (.invalidOpcode (s.read s.pc) s.pc)) := by
  unfold step
  rcases hf : s.fault with _ | r
  · rcases hi : s.fetch with _ | i <;> simp
  · exact .inl ⟨r, rfl, rfl⟩

end Sys2Proof.Machine
end

