-- ==== Sys2Proof/Laws/Operands.lean ====
section
/-! SUPPORT. What the addressing-mode resolver can do, said once: each mode's operand, and what an operand depends on
(40_sequencer_addressing.md R130 to R145). -/

namespace Sys2Proof.Machine

/-- An operand depends on the index registers and memory alone. -/
theorem operandOf_congr {s t : State} (hx : s.x = t.x) (hy : s.y = t.y) (hm : s.mem = t.mem) (i : Instr) :
    operandOf i s = operandOf i t := by
  unfold operandOf
  cases i.mode <;>
    simp only [resolve, indirectTarget, eaZeroPageX, eaZeroPageY, eaAbsoluteX, eaAbsoluteY, eaIndexedIndirectX,
      eaIndirectIndexedY, zeroPagePointer, State.read, hx, hy, hm]

/-- The effective address depends on the index registers and memory alone. -/
theorem effectiveAddress_congr {s t : State} (hx : s.x = t.x) (hy : s.y = t.y) (hm : s.mem = t.mem) (i : Instr) :
    effectiveAddress i s = effectiveAddress i t := by
  rw [effectiveAddress, effectiveAddress, operandOf_congr hx hy hm]

/-- The operand value depends on A, the index registers and memory alone. -/
theorem operandValue_congr {s t : State} (ha : s.a = t.a) (hx : s.x = t.x) (hy : s.y = t.y) (hm : s.mem = t.mem)
    (i : Instr) : operandValue i s = operandValue i t := by
  rw [operandValue, operandValue, operandOf_congr hx hy hm, ha]
  cases operandOf i t <;> simp only [State.read, hm]

theorem operandValue_of_value {i : Instr} {s : State} {m : Byte} (h : operandOf i s = .value m) :
    operandValue i s = m := by
  rw [operandValue, h]

theorem operandValue_of_address {i : Instr} {s : State} {ea : Word} (h : operandOf i s = .address ea) :
    operandValue i s = s.read ea := by
  rw [operandValue, h]

theorem effectiveAddress_of_address {i : Instr} {s : State} {ea : Word} (h : operandOf i s = .address ea) :
    effectiveAddress i s = ea := by
  rw [effectiveAddress, h]

theorem operandOf_immediate {i : Instr} (h : i.mode = .immediate) (s : State) : operandOf i s = .value i.byte1 := by
  rw [operandOf, h]; rfl

theorem operandOf_accumulator {i : Instr} (h : i.mode = .accumulator) (s : State) : operandOf i s = .accumulator := by
  rw [operandOf, h]; rfl

theorem operandOf_zeroPage {i : Instr} (h : i.mode = .zeroPage) (s : State) :
    operandOf i s = .address (eaZeroPage i.byte1) := by
  rw [operandOf, h]; rfl

theorem operandOf_zeroPageX {i : Instr} (h : i.mode = .zeroPageX) (s : State) :
    operandOf i s = .address (eaZeroPageX i.byte1 s) := by
  rw [operandOf, h]; rfl

theorem operandOf_zeroPageY {i : Instr} (h : i.mode = .zeroPageY) (s : State) :
    operandOf i s = .address (eaZeroPageY i.byte1 s) := by
  rw [operandOf, h]; rfl

theorem operandOf_indexedIndirectX {i : Instr} (h : i.mode = .indexedIndirectX) (s : State) :
    operandOf i s = .address (eaIndexedIndirectX i.byte1 s) := by
  rw [operandOf, h]; rfl

theorem operandOf_indirectIndexedY {i : Instr} (h : i.mode = .indirectIndexedY) (s : State) :
    operandOf i s = .address (eaIndirectIndexedY i.byte1 s) := by
  rw [operandOf, h]; rfl

/-- The three modes with a word operand: the operand word is the two operand bytes, low byte first. -/
theorem operandOf_absolute {i : Instr} {w : Word} (h : i.mode = .absolute) (hw : wordOf i.byte2 i.byte1 = w)
    (s : State) : operandOf i s = .address (eaAbsolute w) := by
  rw [operandOf, h, resolve, hw]

theorem operandOf_absoluteX {i : Instr} {w : Word} (h : i.mode = .absoluteX) (hw : wordOf i.byte2 i.byte1 = w)
    (s : State) : operandOf i s = .address (eaAbsoluteX w s) := by
  rw [operandOf, h, resolve, hw]

theorem operandOf_absoluteY {i : Instr} {w : Word} (h : i.mode = .absoluteY) (hw : wordOf i.byte2 i.byte1 = w)
    (s : State) : operandOf i s = .address (eaAbsoluteY w s) := by
  rw [operandOf, h, resolve, hw]

/-! ### The effective addresses as numbers -/

theorem eaZeroPage_toNat (zp : Byte) : (eaZeroPage zp).toNat = zp.toNat := zext16_toNat zp

theorem eaZeroPageX_toNat (zp : Byte) (s : State) : (eaZeroPageX zp s).toNat = (zp.toNat + s.x.toNat) % 256 := by
  rw [eaZeroPageX, zext16_toNat, BitVec.toNat_add]

theorem eaZeroPageY_toNat (zp : Byte) (s : State) : (eaZeroPageY zp s).toNat = (zp.toNat + s.y.toNat) % 256 := by
  rw [eaZeroPageY, zext16_toNat, BitVec.toNat_add]

theorem eaAbsoluteX_toNat (w : Word) (s : State) : (eaAbsoluteX w s).toNat = (w.toNat + s.x.toNat) % 65536 := by
  rw [eaAbsoluteX, BitVec.toNat_add, zext16_toNat]

theorem eaAbsoluteY_toNat (w : Word) (s : State) : (eaAbsoluteY w s).toNat = (w.toNat + s.y.toNat) % 65536 := by
  rw [eaAbsoluteY, BitVec.toNat_add, zext16_toNat]

end Sys2Proof.Machine
end

