-- ==== Sys2Proof/Laws/PerInstr.lean ====
section
/-! SUPPORT. The per-instruction family TableRow: an instruction's row of the dispatch table is the one its opcode
selects, carries its mnemonic, mode and group, asks for as many operand bytes as it has, and makes the instruction
from them (30_encoding.md R91 to R95). One lemma per constructor of Instr. -/

namespace Sys2Proof.Laws.TableRow

def Statement (i : Instr) : Prop :=
  ∃ f : Byte → Byte → Instr,
    dispatchTable i.opcode = some ⟨i.mnemonic, i.mode, i.group, f⟩ ∧ f i.byte1 i.byte2 = i ∧
    i.operandBytes = [i.byte1, i.byte2].take i.mode.operandBytes

theorem ldaImm (imm : Byte) : Statement (.ldaImm imm) := ⟨_, rfl, rfl, rfl⟩
theorem ldaZp (zp : Byte) : Statement (.ldaZp zp) := ⟨_, rfl, rfl, rfl⟩
theorem ldaAbs (addr : Word) : Statement (.ldaAbs addr) := ⟨_, rfl, congrArg _ (wordOf_hiByte_loByte _), rfl⟩
theorem ldaIndX (zp : Byte) : Statement (.ldaIndX zp) := ⟨_, rfl, rfl, rfl⟩
theorem ldaIndY (zp : Byte) : Statement (.ldaIndY zp) := ⟨_, rfl, rfl, rfl⟩
theorem ldaZpX (zp : Byte) : Statement (.ldaZpX zp) := ⟨_, rfl, rfl, rfl⟩
theorem ldaAbsY (base : Word) : Statement (.ldaAbsY base) := ⟨_, rfl, congrArg _ (wordOf_hiByte_loByte _), rfl⟩
theorem ldaAbsX (base : Word) : Statement (.ldaAbsX base) := ⟨_, rfl, congrArg _ (wordOf_hiByte_loByte _), rfl⟩
theorem ldxImm (imm : Byte) : Statement (.ldxImm imm) := ⟨_, rfl, rfl, rfl⟩
theorem ldxZp (zp : Byte) : Statement (.ldxZp zp) := ⟨_, rfl, rfl, rfl⟩
theorem ldxAbs (addr : Word) : Statement (.ldxAbs addr) := ⟨_, rfl, congrArg _ (wordOf_hiByte_loByte _), rfl⟩
theorem ldxZpY (zp : Byte) : Statement (.ldxZpY zp) := ⟨_, rfl, rfl, rfl⟩
theorem ldxAbsY (base : Word) : Statement (.ldxAbsY base) := ⟨_, rfl, congrArg _ (wordOf_hiByte_loByte _), rfl⟩
theorem ldyImm (imm : Byte) : Statement (.ldyImm imm) := ⟨_, rfl, rfl, rfl⟩
theorem ldyZp (zp : Byte) : Statement (.ldyZp zp) := ⟨_, rfl, rfl, rfl⟩
theorem ldyAbs (addr : Word) : Statement (.ldyAbs addr) := ⟨_, rfl, congrArg _ (wordOf_hiByte_loByte _), rfl⟩
theorem ldyZpX (zp : Byte) : Statement (.ldyZpX zp) := ⟨_, rfl, rfl, rfl⟩
theorem ldyAbsX (base : Word) : Statement (.ldyAbsX base) := ⟨_, rfl, congrArg _ (wordOf_hiByte_loByte _), rfl⟩
theorem staZp (zp : Byte) : Statement (.staZp zp) := ⟨_, rfl, rfl, rfl⟩
theorem staAbs (addr : Word) : Statement (.staAbs addr) := ⟨_, rfl, congrArg _ (wordOf_hiByte_loByte _), rfl⟩
theorem staIndX (zp : Byte) : Statement (.staIndX zp) := ⟨_, rfl, rfl, rfl⟩
theorem staIndY (zp : Byte) : Statement (.staIndY zp) := ⟨_, rfl, rfl, rfl⟩
theorem staZpX (zp : Byte) : Statement (.staZpX zp) := ⟨_, rfl, rfl, rfl⟩
theorem staAbsY (base : Word) : Statement (.staAbsY base) := ⟨_, rfl, congrArg _ (wordOf_hiByte_loByte _), rfl⟩
theorem staAbsX (base : Word) : Statement (.staAbsX base) := ⟨_, rfl, congrArg _ (wordOf_hiByte_loByte _), rfl⟩
theorem stxZp (zp : Byte) : Statement (.stxZp zp) := ⟨_, rfl, rfl, rfl⟩
theorem stxAbs (addr : Word) : Statement (.stxAbs addr) := ⟨_, rfl, congrArg _ (wordOf_hiByte_loByte _), rfl⟩
theorem stxZpY (zp : Byte) : Statement (.stxZpY zp) := ⟨_, rfl, rfl, rfl⟩
theorem styZp (zp : Byte) : Statement (.styZp zp) := ⟨_, rfl, rfl, rfl⟩
theorem styAbs (addr : Word) : Statement (.styAbs addr) := ⟨_, rfl, congrArg _ (wordOf_hiByte_loByte _), rfl⟩
theorem styZpX (zp : Byte) : Statement (.styZpX zp) := ⟨_, rfl, rfl, rfl⟩
theorem tax : Statement .tax := ⟨_, rfl, rfl, rfl⟩
theorem tay : Statement .tay := ⟨_, rfl, rfl, rfl⟩
theorem tsx : Statement .tsx := ⟨_, rfl, rfl, rfl⟩
theorem txa : Statement .txa := ⟨_, rfl, rfl, rfl⟩
theorem txs : Statement .txs := ⟨_, rfl, rfl, rfl⟩
theorem tya : Statement .tya := ⟨_, rfl, rfl, rfl⟩
theorem andImm (imm : Byte) : Statement (.andImm imm) := ⟨_, rfl, rfl, rfl⟩
theorem andZp (zp : Byte) : Statement (.andZp zp) := ⟨_, rfl, rfl, rfl⟩
theorem andAbs (addr : Word) : Statement (.andAbs addr) := ⟨_, rfl, congrArg _ (wordOf_hiByte_loByte _), rfl⟩
theorem andIndX (zp : Byte) : Statement (.andIndX zp) := ⟨_, rfl, rfl, rfl⟩
theorem andIndY (zp : Byte) : Statement (.andIndY zp) := ⟨_, rfl, rfl, rfl⟩
theorem andZpX (zp : Byte) : Statement (.andZpX zp) := ⟨_, rfl, rfl, rfl⟩
theorem andAbsY (base : Word) : Statement (.andAbsY base) := ⟨_, rfl, congrArg _ (wordOf_hiByte_loByte _), rfl⟩
theorem andAbsX (base : Word) : Statement (.andAbsX base) := ⟨_, rfl, congrArg _ (wordOf_hiByte_loByte _), rfl⟩
theorem oraImm (imm : Byte) : Statement (.oraImm imm) := ⟨_, rfl, rfl, rfl⟩
theorem oraZp (zp : Byte) : Statement (.oraZp zp) := ⟨_, rfl, rfl, rfl⟩
theorem oraAbs (addr : Word) : Statement (.oraAbs addr) := ⟨_, rfl, congrArg _ (wordOf_hiByte_loByte _), rfl⟩
theorem oraIndX (zp : Byte) : Statement (.oraIndX zp) := ⟨_, rfl, rfl, rfl⟩
theorem oraIndY (zp : Byte) : Statement (.oraIndY zp) := ⟨_, rfl, rfl, rfl⟩
theorem oraZpX (zp : Byte) : Statement (.oraZpX zp) := ⟨_, rfl, rfl, rfl⟩
theorem oraAbsY (base : Word) : Statement (.oraAbsY base) := ⟨_, rfl, congrArg _ (wordOf_hiByte_loByte _), rfl⟩
theorem oraAbsX (base : Word) : Statement (.oraAbsX base) := ⟨_, rfl, congrArg _ (wordOf_hiByte_loByte _), rfl⟩
theorem eorImm (imm : Byte) : Statement (.eorImm imm) := ⟨_, rfl, rfl, rfl⟩
theorem eorZp (zp : Byte) : Statement (.eorZp zp) := ⟨_, rfl, rfl, rfl⟩
theorem eorAbs (addr : Word) : Statement (.eorAbs addr) := ⟨_, rfl, congrArg _ (wordOf_hiByte_loByte _), rfl⟩
theorem eorIndX (zp : Byte) : Statement (.eorIndX zp) := ⟨_, rfl, rfl, rfl⟩
theorem eorIndY (zp : Byte) : Statement (.eorIndY zp) := ⟨_, rfl, rfl, rfl⟩
theorem eorZpX (zp : Byte) : Statement (.eorZpX zp) := ⟨_, rfl, rfl, rfl⟩
theorem eorAbsY (base : Word) : Statement (.eorAbsY base) := ⟨_, rfl, congrArg _ (wordOf_hiByte_loByte _), rfl⟩
theorem eorAbsX (base : Word) : Statement (.eorAbsX base) := ⟨_, rfl, congrArg _ (wordOf_hiByte_loByte _), rfl⟩
theorem bitZp (zp : Byte) : Statement (.bitZp zp) := ⟨_, rfl, rfl, rfl⟩
theorem bitAbs (addr : Word) : Statement (.bitAbs addr) := ⟨_, rfl, congrArg _ (wordOf_hiByte_loByte _), rfl⟩
theorem cmpImm (imm : Byte) : Statement (.cmpImm imm) := ⟨_, rfl, rfl, rfl⟩
theorem cmpZp (zp : Byte) : Statement (.cmpZp zp) := ⟨_, rfl, rfl, rfl⟩
theorem cmpAbs (addr : Word) : Statement (.cmpAbs addr) := ⟨_, rfl, congrArg _ (wordOf_hiByte_loByte _), rfl⟩
theorem cmpIndX (zp : Byte) : Statement (.cmpIndX zp) := ⟨_, rfl, rfl, rfl⟩
theorem cmpIndY (zp : Byte) : Statement (.cmpIndY zp) := ⟨_, rfl, rfl, rfl⟩
theorem cmpZpX (zp : Byte) : Statement (.cmpZpX zp) := ⟨_, rfl, rfl, rfl⟩
theorem cmpAbsY (base : Word) : Statement (.cmpAbsY base) := ⟨_, rfl, congrArg _ (wordOf_hiByte_loByte _), rfl⟩
theorem cmpAbsX (base : Word) : Statement (.cmpAbsX base) := ⟨_, rfl, congrArg _ (wordOf_hiByte_loByte _), rfl⟩
theorem cpxImm (imm : Byte) : Statement (.cpxImm imm) := ⟨_, rfl, rfl, rfl⟩
theorem cpxZp (zp : Byte) : Statement (.cpxZp zp) := ⟨_, rfl, rfl, rfl⟩
theorem cpxAbs (addr : Word) : Statement (.cpxAbs addr) := ⟨_, rfl, congrArg _ (wordOf_hiByte_loByte _), rfl⟩
theorem cpyImm (imm : Byte) : Statement (.cpyImm imm) := ⟨_, rfl, rfl, rfl⟩
theorem cpyZp (zp : Byte) : Statement (.cpyZp zp) := ⟨_, rfl, rfl, rfl⟩
theorem cpyAbs (addr : Word) : Statement (.cpyAbs addr) := ⟨_, rfl, congrArg _ (wordOf_hiByte_loByte _), rfl⟩
theorem adcImm (imm : Byte) : Statement (.adcImm imm) := ⟨_, rfl, rfl, rfl⟩
theorem adcZp (zp : Byte) : Statement (.adcZp zp) := ⟨_, rfl, rfl, rfl⟩
theorem adcAbs (addr : Word) : Statement (.adcAbs addr) := ⟨_, rfl, congrArg _ (wordOf_hiByte_loByte _), rfl⟩
theorem adcIndX (zp : Byte) : Statement (.adcIndX zp) := ⟨_, rfl, rfl, rfl⟩
theorem adcIndY (zp : Byte) : Statement (.adcIndY zp) := ⟨_, rfl, rfl, rfl⟩
theorem adcZpX (zp : Byte) : Statement (.adcZpX zp) := ⟨_, rfl, rfl, rfl⟩
theorem adcAbsY (base : Word) : Statement (.adcAbsY base) := ⟨_, rfl, congrArg _ (wordOf_hiByte_loByte _), rfl⟩
theorem adcAbsX (base : Word) : Statement (.adcAbsX base) := ⟨_, rfl, congrArg _ (wordOf_hiByte_loByte _), rfl⟩
theorem sbcImm (imm : Byte) : Statement (.sbcImm imm) := ⟨_, rfl, rfl, rfl⟩
theorem sbcZp (zp : Byte) : Statement (.sbcZp zp) := ⟨_, rfl, rfl, rfl⟩
theorem sbcAbs (addr : Word) : Statement (.sbcAbs addr) := ⟨_, rfl, congrArg _ (wordOf_hiByte_loByte _), rfl⟩
theorem sbcIndX (zp : Byte) : Statement (.sbcIndX zp) := ⟨_, rfl, rfl, rfl⟩
theorem sbcIndY (zp : Byte) : Statement (.sbcIndY zp) := ⟨_, rfl, rfl, rfl⟩
theorem sbcZpX (zp : Byte) : Statement (.sbcZpX zp) := ⟨_, rfl, rfl, rfl⟩
theorem sbcAbsY (base : Word) : Statement (.sbcAbsY base) := ⟨_, rfl, congrArg _ (wordOf_hiByte_loByte _), rfl⟩
theorem sbcAbsX (base : Word) : Statement (.sbcAbsX base) := ⟨_, rfl, congrArg _ (wordOf_hiByte_loByte _), rfl⟩
theorem bpl (d : Byte) : Statement (.bpl d) := ⟨_, rfl, rfl, rfl⟩
theorem bmi (d : Byte) : Statement (.bmi d) := ⟨_, rfl, rfl, rfl⟩
theorem bvc (d : Byte) : Statement (.bvc d) := ⟨_, rfl, rfl, rfl⟩
theorem bvs (d : Byte) : Statement (.bvs d) := ⟨_, rfl, rfl, rfl⟩
theorem bcc (d : Byte) : Statement (.bcc d) := ⟨_, rfl, rfl, rfl⟩
theorem bcs (d : Byte) : Statement (.bcs d) := ⟨_, rfl, rfl, rfl⟩
theorem bne (d : Byte) : Statement (.bne d) := ⟨_, rfl, rfl, rfl⟩
theorem beq (d : Byte) : Statement (.beq d) := ⟨_, rfl, rfl, rfl⟩
theorem jmpAbs (target : Word) : Statement (.jmpAbs target) := ⟨_, rfl, congrArg _ (wordOf_hiByte_loByte _), rfl⟩
theorem jmpInd (ptr : Word) : Statement (.jmpInd ptr) := ⟨_, rfl, congrArg _ (wordOf_hiByte_loByte _), rfl⟩
theorem jsr (target : Word) : Statement (.jsr target) := ⟨_, rfl, congrArg _ (wordOf_hiByte_loByte _), rfl⟩
theorem rts : Statement .rts := ⟨_, rfl, rfl, rfl⟩
theorem rti : Statement .rti := ⟨_, rfl, rfl, rfl⟩
theorem pha : Statement .pha := ⟨_, rfl, rfl, rfl⟩
theorem pla : Statement .pla := ⟨_, rfl, rfl, rfl⟩
theorem php : Statement .php := ⟨_, rfl, rfl, rfl⟩
theorem plp : Statement .plp := ⟨_, rfl, rfl, rfl⟩
theorem clc : Statement .clc := ⟨_, rfl, rfl, rfl⟩
theorem sec : Statement .sec := ⟨_, rfl, rfl, rfl⟩
theorem cli : Statement .cli := ⟨_, rfl, rfl, rfl⟩
theorem sei : Statement .sei := ⟨_, rfl, rfl, rfl⟩
theorem clv : Statement .clv := ⟨_, rfl, rfl, rfl⟩
theorem cld : Statement .cld := ⟨_, rfl, rfl, rfl⟩
theorem sed : Statement .sed := ⟨_, rfl, rfl, rfl⟩
theorem brk : Statement .brk := ⟨_, rfl, rfl, rfl⟩
theorem aslAcc : Statement .aslAcc := ⟨_, rfl, rfl, rfl⟩
theorem aslZp (zp : Byte) : Statement (.aslZp zp) := ⟨_, rfl, rfl, rfl⟩
theorem aslAbs (addr : Word) : Statement (.aslAbs addr) := ⟨_, rfl, congrArg _ (wordOf_hiByte_loByte _), rfl⟩
theorem aslZpX (zp : Byte) : Statement (.aslZpX zp) := ⟨_, rfl, rfl, rfl⟩
theorem aslAbsX (base : Word) : Statement (.aslAbsX base) := ⟨_, rfl, congrArg _ (wordOf_hiByte_loByte _), rfl⟩
theorem lsrAcc : Statement .lsrAcc := ⟨_, rfl, rfl, rfl⟩
theorem lsrZp (zp : Byte) : Statement (.lsrZp zp) := ⟨_, rfl, rfl, rfl⟩
theorem lsrAbs (addr : Word) : Statement (.lsrAbs addr) := ⟨_, rfl, congrArg _ (wordOf_hiByte_loByte _), rfl⟩
theorem lsrZpX (zp : Byte) : Statement (.lsrZpX zp) := ⟨_, rfl, rfl, rfl⟩
theorem lsrAbsX (base : Word) : Statement (.lsrAbsX base) := ⟨_, rfl, congrArg _ (wordOf_hiByte_loByte _), rfl⟩
theorem rolAcc : Statement .rolAcc := ⟨_, rfl, rfl, rfl⟩
theorem rolZp (zp : Byte) : Statement (.rolZp zp) := ⟨_, rfl, rfl, rfl⟩
theorem rolAbs (addr : Word) : Statement (.rolAbs addr) := ⟨_, rfl, congrArg _ (wordOf_hiByte_loByte _), rfl⟩
theorem rolZpX (zp : Byte) : Statement (.rolZpX zp) := ⟨_, rfl, rfl, rfl⟩
theorem rolAbsX (base : Word) : Statement (.rolAbsX base) := ⟨_, rfl, congrArg _ (wordOf_hiByte_loByte _), rfl⟩
theorem rorAcc : Statement .rorAcc := ⟨_, rfl, rfl, rfl⟩
theorem rorZp (zp : Byte) : Statement (.rorZp zp) := ⟨_, rfl, rfl, rfl⟩
theorem rorAbs (addr : Word) : Statement (.rorAbs addr) := ⟨_, rfl, congrArg _ (wordOf_hiByte_loByte _), rfl⟩
theorem rorZpX (zp : Byte) : Statement (.rorZpX zp) := ⟨_, rfl, rfl, rfl⟩
theorem rorAbsX (base : Word) : Statement (.rorAbsX base) := ⟨_, rfl, congrArg _ (wordOf_hiByte_loByte _), rfl⟩
theorem incZp (zp : Byte) : Statement (.incZp zp) := ⟨_, rfl, rfl, rfl⟩
theorem incAbs (addr : Word) : Statement (.incAbs addr) := ⟨_, rfl, congrArg _ (wordOf_hiByte_loByte _), rfl⟩
theorem incZpX (zp : Byte) : Statement (.incZpX zp) := ⟨_, rfl, rfl, rfl⟩
theorem incAbsX (base : Word) : Statement (.incAbsX base) := ⟨_, rfl, congrArg _ (wordOf_hiByte_loByte _), rfl⟩
theorem decZp (zp : Byte) : Statement (.decZp zp) := ⟨_, rfl, rfl, rfl⟩
theorem decAbs (addr : Word) : Statement (.decAbs addr) := ⟨_, rfl, congrArg _ (wordOf_hiByte_loByte _), rfl⟩
theorem decZpX (zp : Byte) : Statement (.decZpX zp) := ⟨_, rfl, rfl, rfl⟩
theorem decAbsX (base : Word) : Statement (.decAbsX base) := ⟨_, rfl, congrArg _ (wordOf_hiByte_loByte _), rfl⟩
theorem inx : Statement .inx := ⟨_, rfl, rfl, rfl⟩
theorem iny : Statement .iny := ⟨_, rfl, rfl, rfl⟩
theorem dex : Statement .dex := ⟨_, rfl, rfl, rfl⟩
theorem dey : Statement .dey := ⟨_, rfl, rfl, rfl⟩
theorem nop : Statement .nop := ⟨_, rfl, rfl, rfl⟩

end Sys2Proof.Laws.TableRow

/-- Every instruction has its row of the dispatch table. -/
theorem Sys2Proof.Laws.tableRow (i : Sys2Proof.Instr) : TableRow.Statement i := by
  cases i with
  | ldaImm imm => exact TableRow.ldaImm imm
  | ldaZp zp => exact TableRow.ldaZp zp
  | ldaAbs addr => exact TableRow.ldaAbs addr
  | ldaIndX zp => exact TableRow.ldaIndX zp
  | ldaIndY zp => exact TableRow.ldaIndY zp
  | ldaZpX zp => exact TableRow.ldaZpX zp
  | ldaAbsY base => exact TableRow.ldaAbsY base
  | ldaAbsX base => exact TableRow.ldaAbsX base
  | ldxImm imm => exact TableRow.ldxImm imm
  | ldxZp zp => exact TableRow.ldxZp zp
  | ldxAbs addr => exact TableRow.ldxAbs addr
  | ldxZpY zp => exact TableRow.ldxZpY zp
  | ldxAbsY base => exact TableRow.ldxAbsY base
  | ldyImm imm => exact TableRow.ldyImm imm
  | ldyZp zp => exact TableRow.ldyZp zp
  | ldyAbs addr => exact TableRow.ldyAbs addr
  | ldyZpX zp => exact TableRow.ldyZpX zp
  | ldyAbsX base => exact TableRow.ldyAbsX base
  | staZp zp => exact TableRow.staZp zp
  | staAbs addr => exact TableRow.staAbs addr
  | staIndX zp => exact TableRow.staIndX zp
  | staIndY zp => exact TableRow.staIndY zp
  | staZpX zp => exact TableRow.staZpX zp
  | staAbsY base => exact TableRow.staAbsY base
  | staAbsX base => exact TableRow.staAbsX base
  | stxZp zp => exact TableRow.stxZp zp
  | stxAbs addr => exact TableRow.stxAbs addr
  | stxZpY zp => exact TableRow.stxZpY zp
  | styZp zp => exact TableRow.styZp zp
  | styAbs addr => exact TableRow.styAbs addr
  | styZpX zp => exact TableRow.styZpX zp
  | tax => exact TableRow.tax
  | tay => exact TableRow.tay
  | tsx => exact TableRow.tsx
  | txa => exact TableRow.txa
  | txs => exact TableRow.txs
  | tya => exact TableRow.tya
  | andImm imm => exact TableRow.andImm imm
  | andZp zp => exact TableRow.andZp zp
  | andAbs addr => exact TableRow.andAbs addr
  | andIndX zp => exact TableRow.andIndX zp
  | andIndY zp => exact TableRow.andIndY zp
  | andZpX zp => exact TableRow.andZpX zp
  | andAbsY base => exact TableRow.andAbsY base
  | andAbsX base => exact TableRow.andAbsX base
  | oraImm imm => exact TableRow.oraImm imm
  | oraZp zp => exact TableRow.oraZp zp
  | oraAbs addr => exact TableRow.oraAbs addr
  | oraIndX zp => exact TableRow.oraIndX zp
  | oraIndY zp => exact TableRow.oraIndY zp
  | oraZpX zp => exact TableRow.oraZpX zp
  | oraAbsY base => exact TableRow.oraAbsY base
  | oraAbsX base => exact TableRow.oraAbsX base
  | eorImm imm => exact TableRow.eorImm imm
  | eorZp zp => exact TableRow.eorZp zp
  | eorAbs addr => exact TableRow.eorAbs addr
  | eorIndX zp => exact TableRow.eorIndX zp
  | eorIndY zp => exact TableRow.eorIndY zp
  | eorZpX zp => exact TableRow.eorZpX zp
  | eorAbsY base => exact TableRow.eorAbsY base
  | eorAbsX base => exact TableRow.eorAbsX base
  | bitZp zp => exact TableRow.bitZp zp
  | bitAbs addr => exact TableRow.bitAbs addr
  | cmpImm imm => exact TableRow.cmpImm imm
  | cmpZp zp => exact TableRow.cmpZp zp
  | cmpAbs addr => exact TableRow.cmpAbs addr
  | cmpIndX zp => exact TableRow.cmpIndX zp
  | cmpIndY zp => exact TableRow.cmpIndY zp
  | cmpZpX zp => exact TableRow.cmpZpX zp
  | cmpAbsY base => exact TableRow.cmpAbsY base
  | cmpAbsX base => exact TableRow.cmpAbsX base
  | cpxImm imm => exact TableRow.cpxImm imm
  | cpxZp zp => exact TableRow.cpxZp zp
  | cpxAbs addr => exact TableRow.cpxAbs addr
  | cpyImm imm => exact TableRow.cpyImm imm
  | cpyZp zp => exact TableRow.cpyZp zp
  | cpyAbs addr => exact TableRow.cpyAbs addr
  | adcImm imm => exact TableRow.adcImm imm
  | adcZp zp => exact TableRow.adcZp zp
  | adcAbs addr => exact TableRow.adcAbs addr
  | adcIndX zp => exact TableRow.adcIndX zp
  | adcIndY zp => exact TableRow.adcIndY zp
  | adcZpX zp => exact TableRow.adcZpX zp
  | adcAbsY base => exact TableRow.adcAbsY base
  | adcAbsX base => exact TableRow.adcAbsX base
  | sbcImm imm => exact TableRow.sbcImm imm
  | sbcZp zp => exact TableRow.sbcZp zp
  | sbcAbs addr => exact TableRow.sbcAbs addr
  | sbcIndX zp => exact TableRow.sbcIndX zp
  | sbcIndY zp => exact TableRow.sbcIndY zp
  | sbcZpX zp => exact TableRow.sbcZpX zp
  | sbcAbsY base => exact TableRow.sbcAbsY base
  | sbcAbsX base => exact TableRow.sbcAbsX base
  | bpl d => exact TableRow.bpl d
  | bmi d => exact TableRow.bmi d
  | bvc d => exact TableRow.bvc d
  | bvs d => exact TableRow.bvs d
  | bcc d => exact TableRow.bcc d
  | bcs d => exact TableRow.bcs d
  | bne d => exact TableRow.bne d
  | beq d => exact TableRow.beq d
  | jmpAbs target => exact TableRow.jmpAbs target
  | jmpInd ptr => exact TableRow.jmpInd ptr
  | jsr target => exact TableRow.jsr target
  | rts => exact TableRow.rts
  | rti => exact TableRow.rti
  | pha => exact TableRow.pha
  | pla => exact TableRow.pla
  | php => exact TableRow.php
  | plp => exact TableRow.plp
  | clc => exact TableRow.clc
  | sec => exact TableRow.sec
  | cli => exact TableRow.cli
  | sei => exact TableRow.sei
  | clv => exact TableRow.clv
  | cld => exact TableRow.cld
  | sed => exact TableRow.sed
  | brk => exact TableRow.brk
  | aslAcc => exact TableRow.aslAcc
  | aslZp zp => exact TableRow.aslZp zp
  | aslAbs addr => exact TableRow.aslAbs addr
  | aslZpX zp => exact TableRow.aslZpX zp
  | aslAbsX base => exact TableRow.aslAbsX base
  | lsrAcc => exact TableRow.lsrAcc
  | lsrZp zp => exact TableRow.lsrZp zp
  | lsrAbs addr => exact TableRow.lsrAbs addr
  | lsrZpX zp => exact TableRow.lsrZpX zp
  | lsrAbsX base => exact TableRow.lsrAbsX base
  | rolAcc => exact TableRow.rolAcc
  | rolZp zp => exact TableRow.rolZp zp
  | rolAbs addr => exact TableRow.rolAbs addr
  | rolZpX zp => exact TableRow.rolZpX zp
  | rolAbsX base => exact TableRow.rolAbsX base
  | rorAcc => exact TableRow.rorAcc
  | rorZp zp => exact TableRow.rorZp zp
  | rorAbs addr => exact TableRow.rorAbs addr
  | rorZpX zp => exact TableRow.rorZpX zp
  | rorAbsX base => exact TableRow.rorAbsX base
  | incZp zp => exact TableRow.incZp zp
  | incAbs addr => exact TableRow.incAbs addr
  | incZpX zp => exact TableRow.incZpX zp
  | incAbsX base => exact TableRow.incAbsX base
  | decZp zp => exact TableRow.decZp zp
  | decAbs addr => exact TableRow.decAbs addr
  | decZpX zp => exact TableRow.decZpX zp
  | decAbsX base => exact TableRow.decAbsX base
  | inx => exact TableRow.inx
  | iny => exact TableRow.iny
  | dex => exact TableRow.dex
  | dey => exact TableRow.dey
  | nop => exact TableRow.nop
end

