-- ==== Sys2Proof/Laws/Session.lean ====
section
/-! SUPPORT. What the host's operations can do, said once: a load, execute_one, a run of the core, and the runs that
meet no opcode 0x00 (70_reset_and_hazards.md R345 to R352). -/

namespace Sys2Proof.Machine

/-- When a load succeeds and what it answers (70_reset_and_hazards.md R345, R346). -/
theorem State.loadProgram_eq_ok {s t : State} {bytes : List Byte} {base : Word} :
    s.loadProgram bytes base = .ok t ↔
      base.toNat + bytes.length ≤ 65536 ∧ t = { s.storeBytes base bytes with pc := base } := by
  unfold State.loadProgram
  split
  · simp; omega
  · simp [eq_comm]; omega

/-- execute_one without a failure is a step with a next state (60_exceptions.md R301). -/
theorem State.executeOne_eq_none {s t : State} : s.executeOne = (t, none) ↔ step s = .next t := by
  unfold State.executeOne
  cases step s <;> simp

/-- A run of no steps is where it starts. -/
theorem core_run_zero (s : State) : Host.Core.run core 0 s = .next s := rfl

/-- A run of one step more is the step, then the run. -/
theorem core_run_succ (n : Nat) (s : State) : Host.Core.run core (n + 1) s =
    match step s with
    | .next t => Host.Core.run core n t
    | .fault f => .fault f
    | .refused r => .refused r := by
  have h : core.step s = step s := rfl
  rw [show Host.Core.run core (n + 1) s = _ from Host.Core.run.eq_2 core s n, h]
  rcases step s with _ | _ | _ <;> rfl

theorem State.noBreakBefore_zero (s : State) : s.noBreakBefore 0 := fun _ _ h => absurd h (Nat.not_lt_zero _)

/-- The first k + 1 states of a run meet no 0x00 if the first does not and the k after it do not. -/
theorem State.noBreakBefore_succ {s t : State} (h : step s = .next t) (k : Nat) :
    s.noBreakBefore (k + 1) ↔ s.read s.pc ≠ 0x00#8 ∧ t.noBreakBefore k := by
  constructor
  · intro hs
    exact ⟨hs 0 s (by omega) rfl, fun j w hj hw => hs (j + 1) w (by omega) (by rw [core_run_succ, h]; exact hw)⟩
  · rintro ⟨h0, ht⟩ (_ | j) w hj hw
    · cases hw; exact h0
    · rw [core_run_succ, h] at hw
      exact ht j w (by omega) hw

/-- Soundness speaks of memory, the latch and the configuration alone. -/
theorem State.sound_congr {s t : State} (hm : s.mem = t.mem) (hf : s.fault = t.fault) (hc : s.cfg = t.cfg) :
    s.Sound ↔ t.Sound := by
  rw [State.Sound, State.Sound, State.inv_congr hm, hf, hc]

/-- A write keeps a state sound. -/
theorem State.write_sound {s : State} (addr : Word) (v : Byte) (h : s.Sound) : (s.write addr v).Sound :=
  ⟨State.write_inv addr v h.1, h.2⟩

end Sys2Proof.Machine
end

