-- ==== Sys2Proof/Tests/Slice0.lean ====
section
/-! SUPPORT. The model's own tests. Expected results come from the spec: the opcode map of 30_encoding.md R95 for the
decode tests, the vectors of 95_test_vectors.md (named in each comment) for the steps. The `witness_` theorems show,
for each statement with hypotheses, a concrete case that meets them. -/

namespace Sys2Proof.Tests

open Sys2Proof.Machine

/-! ### Helpers -/

/-- The default configuration without G_SHIFT. -/
def noShift : Config := { Config.default with gShift := false }

/-- The default configuration with BRK_MODE = Marker. -/
def markerMode : Config := { Config.default with brkMode := .marker }

/-- The default configuration with PLA_SETS_NZ = true. -/
def plaFlags : Config := { Config.default with plaSetsNZ := true }

/-- A state with the bytes `prog` at `pc`, the registers and status byte given, and the bytes `m` in memory. -/
def given (pc : Word) (prog : List Byte) (a x y sp p : Byte) (m : List (Word × Byte)) (cfg : Config) : State :=
  m.foldl (fun s c => s.write c.1 c.2)
    ((({ State.reset with a := a, x := x, y := y, sp := sp, pc := pc, cfg := cfg }).loadP p).storeBytes pc prog)

/-- A state with the bytes `prog` at 0x0600, all else as after reset. -/
def running (prog : List Byte) : State := given 0x0600#16 prog 0x00#8 0x00#8 0x00#8 0xFF#8 0x00#8 [] Config.default

/-- What the host sees after one step that answers a next state: the snapshot and the bytes at `addrs`. -/
def seen (s : State) (addrs : List Word) : Option (Snapshot × List Byte) :=
  match step s with
  | .next t => some (t.snapshot, addrs.map t.read)
  | .fault _ => none
  | .refused _ => none

/-- The fault one step stops with. -/
def stops (s : State) : Option Fault :=
  match step s with
  | .next _ => none
  | .fault f => some f
  | .refused _ => none

/-- Whether a result is a next state. -/
def answers : Result → Bool
  | .next _ => true
  | .fault _ => false
  | .refused _ => false

theorem next_of_answers {r : Result} (h : answers r = true) : ∃ t, r = .next t := by
  cases r with
  | next t => exact ⟨t, rfl⟩
  | fault _ => cases h
  | refused _ => cases h


/-! ### Well-formedness: one ill-formed instruction per check -/

/-- G_SHIFT = false makes ASL A ill-formed; G_SHIFT = true does not (30_encoding.md R97). -/
theorem test_wellFormed_shift :
    Instr.shiftOk noShift .aslAcc = false ∧ Instr.wellFormed noShift .aslAcc = false ∧
    Instr.wellFormed Config.default .aslAcc = true ∧
    Instr.wellFormed { noShift with gIdx := true } (.aslZpX 0x10#8) = false := by
  decide

/-- INC and INX are ill-formed under the default configuration (R98). -/
theorem test_wellFormed_incdec :
    Instr.incdecOk Config.default .inx = false ∧ Instr.wellFormed Config.default .inx = false ∧
    Instr.wellFormed Config.full .inx = true ∧
    Instr.wellFormed { Config.default with gIdx := true } (.incAbsX 0x0200#16) = false := by
  decide

/-- NOP is ill-formed under the default configuration (R99). -/
theorem test_wellFormed_nop :
    Instr.nopOk Config.default .nop = false ∧ Instr.wellFormed Config.default .nop = false ∧
    Instr.wellFormed Config.full .nop = true := by
  decide

/-- LDA zp,X is ill-formed under the default configuration (R100). -/
theorem test_wellFormed_idx :
    Instr.idxOk Config.default (.ldaZpX 0x10#8) = false ∧ Instr.wellFormed Config.default (.ldaZpX 0x10#8) = false ∧
    Instr.wellFormed Config.full (.ldaZpX 0x10#8) = true ∧
    Instr.wellFormed Config.default (.ldaImm 0xFF#8) = true := by
  decide

/-! ### Decoding: every constructor, by a word written out from 30_encoding.md -/

/-- Each word of the family, its opcode byte from the map of 30_encoding.md R95, its operand bytes 0x34 then 0x12
(R92, R93). -/
theorem test_decode_load_store :
    decodeTableWord 16 0x34A1 = some (.ldaIndX 0x34#8) ∧
    decodeTableWord 16 0x34A5 = some (.ldaZp 0x34#8) ∧
    decodeTableWord 16 0x34A9 = some (.ldaImm 0x34#8) ∧
    decodeTableWord 24 0x1234AD = some (.ldaAbs 0x1234#16) ∧
    decodeTableWord 16 0x34B1 = some (.ldaIndY 0x34#8) ∧
    decodeTableWord 16 0x34B5 = some (.ldaZpX 0x34#8) ∧
    decodeTableWord 24 0x1234B9 = some (.ldaAbsY 0x1234#16) ∧
    decodeTableWord 24 0x1234BD = some (.ldaAbsX 0x1234#16) ∧
    decodeTableWord 16 0x34A2 = some (.ldxImm 0x34#8) ∧
    decodeTableWord 16 0x34A6 = some (.ldxZp 0x34#8) ∧
    decodeTableWord 24 0x1234AE = some (.ldxAbs 0x1234#16) ∧
    decodeTableWord 16 0x34B6 = some (.ldxZpY 0x34#8) ∧
    decodeTableWord 24 0x1234BE = some (.ldxAbsY 0x1234#16) ∧
    decodeTableWord 16 0x34A0 = some (.ldyImm 0x34#8) ∧
    decodeTableWord 16 0x34A4 = some (.ldyZp 0x34#8) ∧
    decodeTableWord 24 0x1234AC = some (.ldyAbs 0x1234#16) ∧
    decodeTableWord 16 0x34B4 = some (.ldyZpX 0x34#8) ∧
    decodeTableWord 24 0x1234BC = some (.ldyAbsX 0x1234#16) ∧
    decodeTableWord 16 0x3481 = some (.staIndX 0x34#8) ∧
    decodeTableWord 16 0x3485 = some (.staZp 0x34#8) ∧
    decodeTableWord 24 0x12348D = some (.staAbs 0x1234#16) ∧
    decodeTableWord 16 0x3491 = some (.staIndY 0x34#8) ∧
    decodeTableWord 16 0x3495 = some (.staZpX 0x34#8) ∧
    decodeTableWord 24 0x123499 = some (.staAbsY 0x1234#16) ∧
    decodeTableWord 24 0x12349D = some (.staAbsX 0x1234#16) ∧
    decodeTableWord 16 0x3486 = some (.stxZp 0x34#8) ∧
    decodeTableWord 24 0x12348E = some (.stxAbs 0x1234#16) ∧
    decodeTableWord 16 0x3496 = some (.stxZpY 0x34#8) ∧
    decodeTableWord 16 0x3484 = some (.styZp 0x34#8) ∧
    decodeTableWord 24 0x12348C = some (.styAbs 0x1234#16) ∧
    decodeTableWord 16 0x3494 = some (.styZpX 0x34#8) := by
  decide

/-- Each word of the family, its opcode byte from the map of 30_encoding.md R95, its operand bytes 0x34 then 0x12
(R92, R93). -/
theorem test_decode_transfer :
    decodeTableWord 8 0xAA = some .tax ∧
    decodeTableWord 8 0xA8 = some .tay ∧
    decodeTableWord 8 0xBA = some .tsx ∧
    decodeTableWord 8 0x8A = some .txa ∧
    decodeTableWord 8 0x9A = some .txs ∧
    decodeTableWord 8 0x98 = some .tya := by
  decide

/-- Each word of the family, its opcode byte from the map of 30_encoding.md R95, its operand bytes 0x34 then 0x12
(R92, R93). -/
theorem test_decode_logic :
    decodeTableWord 16 0x3421 = some (.andIndX 0x34#8) ∧
    decodeTableWord 16 0x3425 = some (.andZp 0x34#8) ∧
    decodeTableWord 16 0x3429 = some (.andImm 0x34#8) ∧
    decodeTableWord 24 0x12342D = some (.andAbs 0x1234#16) ∧
    decodeTableWord 16 0x3431 = some (.andIndY 0x34#8) ∧
    decodeTableWord 16 0x3435 = some (.andZpX 0x34#8) ∧
    decodeTableWord 24 0x123439 = some (.andAbsY 0x1234#16) ∧
    decodeTableWord 24 0x12343D = some (.andAbsX 0x1234#16) ∧
    decodeTableWord 16 0x3401 = some (.oraIndX 0x34#8) ∧
    decodeTableWord 16 0x3405 = some (.oraZp 0x34#8) ∧
    decodeTableWord 16 0x3409 = some (.oraImm 0x34#8) ∧
    decodeTableWord 24 0x12340D = some (.oraAbs 0x1234#16) ∧
    decodeTableWord 16 0x3411 = some (.oraIndY 0x34#8) ∧
    decodeTableWord 16 0x3415 = some (.oraZpX 0x34#8) ∧
    decodeTableWord 24 0x123419 = some (.oraAbsY 0x1234#16) ∧
    decodeTableWord 24 0x12341D = some (.oraAbsX 0x1234#16) ∧
    decodeTableWord 16 0x3441 = some (.eorIndX 0x34#8) ∧
    decodeTableWord 16 0x3445 = some (.eorZp 0x34#8) ∧
    decodeTableWord 16 0x3449 = some (.eorImm 0x34#8) ∧
    decodeTableWord 24 0x12344D = some (.eorAbs 0x1234#16) ∧
    decodeTableWord 16 0x3451 = some (.eorIndY 0x34#8) ∧
    decodeTableWord 16 0x3455 = some (.eorZpX 0x34#8) ∧
    decodeTableWord 24 0x123459 = some (.eorAbsY 0x1234#16) ∧
    decodeTableWord 24 0x12345D = some (.eorAbsX 0x1234#16) ∧
    decodeTableWord 16 0x3424 = some (.bitZp 0x34#8) ∧
    decodeTableWord 24 0x12342C = some (.bitAbs 0x1234#16) := by
  decide

/-- Each word of the family, its opcode byte from the map of 30_encoding.md R95, its operand bytes 0x34 then 0x12
(R92, R93). -/
theorem test_decode_compare :
    decodeTableWord 16 0x34C1 = some (.cmpIndX 0x34#8) ∧
    decodeTableWord 16 0x34C5 = some (.cmpZp 0x34#8) ∧
    decodeTableWord 16 0x34C9 = some (.cmpImm 0x34#8) ∧
    decodeTableWord 24 0x1234CD = some (.cmpAbs 0x1234#16) ∧
    decodeTableWord 16 0x34D1 = some (.cmpIndY 0x34#8) ∧
    decodeTableWord 16 0x34D5 = some (.cmpZpX 0x34#8) ∧
    decodeTableWord 24 0x1234D9 = some (.cmpAbsY 0x1234#16) ∧
    decodeTableWord 24 0x1234DD = some (.cmpAbsX 0x1234#16) ∧
    decodeTableWord 16 0x34E0 = some (.cpxImm 0x34#8) ∧
    decodeTableWord 16 0x34E4 = some (.cpxZp 0x34#8) ∧
    decodeTableWord 24 0x1234EC = some (.cpxAbs 0x1234#16) ∧
    decodeTableWord 16 0x34C0 = some (.cpyImm 0x34#8) ∧
    decodeTableWord 16 0x34C4 = some (.cpyZp 0x34#8) ∧
    decodeTableWord 24 0x1234CC = some (.cpyAbs 0x1234#16) := by
  decide

/-- Each word of the family, its opcode byte from the map of 30_encoding.md R95, its operand bytes 0x34 then 0x12
(R92, R93). -/
theorem test_decode_arithmetic :
    decodeTableWord 16 0x3461 = some (.adcIndX 0x34#8) ∧
    decodeTableWord 16 0x3465 = some (.adcZp 0x34#8) ∧
    decodeTableWord 16 0x3469 = some (.adcImm 0x34#8) ∧
    decodeTableWord 24 0x12346D = some (.adcAbs 0x1234#16) ∧
    decodeTableWord 16 0x3471 = some (.adcIndY 0x34#8) ∧
    decodeTableWord 16 0x3475 = some (.adcZpX 0x34#8) ∧
    decodeTableWord 24 0x123479 = some (.adcAbsY 0x1234#16) ∧
    decodeTableWord 24 0x12347D = some (.adcAbsX 0x1234#16) ∧
    decodeTableWord 16 0x34E1 = some (.sbcIndX 0x34#8) ∧
    decodeTableWord 16 0x34E5 = some (.sbcZp 0x34#8) ∧
    decodeTableWord 16 0x34E9 = some (.sbcImm 0x34#8) ∧
    decodeTableWord 24 0x1234ED = some (.sbcAbs 0x1234#16) ∧
    decodeTableWord 16 0x34F1 = some (.sbcIndY 0x34#8) ∧
    decodeTableWord 16 0x34F5 = some (.sbcZpX 0x34#8) ∧
    decodeTableWord 24 0x1234F9 = some (.sbcAbsY 0x1234#16) ∧
    decodeTableWord 24 0x1234FD = some (.sbcAbsX 0x1234#16) := by
  decide

/-- Each word of the family, its opcode byte from the map of 30_encoding.md R95, its operand bytes 0x34 then 0x12
(R92, R93). -/
theorem test_decode_control :
    decodeTableWord 16 0x3410 = some (.bpl 0x34#8) ∧
    decodeTableWord 16 0x3430 = some (.bmi 0x34#8) ∧
    decodeTableWord 16 0x3450 = some (.bvc 0x34#8) ∧
    decodeTableWord 16 0x3470 = some (.bvs 0x34#8) ∧
    decodeTableWord 16 0x3490 = some (.bcc 0x34#8) ∧
    decodeTableWord 16 0x34B0 = some (.bcs 0x34#8) ∧
    decodeTableWord 16 0x34D0 = some (.bne 0x34#8) ∧
    decodeTableWord 16 0x34F0 = some (.beq 0x34#8) ∧
    decodeTableWord 24 0x12344C = some (.jmpAbs 0x1234#16) ∧
    decodeTableWord 24 0x12346C = some (.jmpInd 0x1234#16) ∧
    decodeTableWord 24 0x123420 = some (.jsr 0x1234#16) ∧
    decodeTableWord 8 0x60 = some .rts ∧
    decodeTableWord 8 0x40 = some .rti := by
  decide

/-- Each word of the family, its opcode byte from the map of 30_encoding.md R95, its operand bytes 0x34 then 0x12
(R92, R93). -/
theorem test_decode_stack_and_flags :
    decodeTableWord 8 0x48 = some .pha ∧
    decodeTableWord 8 0x68 = some .pla ∧
    decodeTableWord 8 0x08 = some .php ∧
    decodeTableWord 8 0x28 = some .plp ∧
    decodeTableWord 8 0x18 = some .clc ∧
    decodeTableWord 8 0x38 = some .sec ∧
    decodeTableWord 8 0x58 = some .cli ∧
    decodeTableWord 8 0x78 = some .sei ∧
    decodeTableWord 8 0xB8 = some .clv ∧
    decodeTableWord 8 0xD8 = some .cld ∧
    decodeTableWord 8 0xF8 = some .sed ∧
    decodeTableWord 8 0x00 = some .brk := by
  decide

/-- Each word of the family, its opcode byte from the map of 30_encoding.md R95, its operand bytes 0x34 then 0x12
(R92, R93). -/
theorem test_decode_shift :
    decodeTableWord 16 0x3406 = some (.aslZp 0x34#8) ∧
    decodeTableWord 8 0x0A = some .aslAcc ∧
    decodeTableWord 24 0x12340E = some (.aslAbs 0x1234#16) ∧
    decodeTableWord 16 0x3416 = some (.aslZpX 0x34#8) ∧
    decodeTableWord 24 0x12341E = some (.aslAbsX 0x1234#16) ∧
    decodeTableWord 16 0x3446 = some (.lsrZp 0x34#8) ∧
    decodeTableWord 8 0x4A = some .lsrAcc ∧
    decodeTableWord 24 0x12344E = some (.lsrAbs 0x1234#16) ∧
    decodeTableWord 16 0x3456 = some (.lsrZpX 0x34#8) ∧
    decodeTableWord 24 0x12345E = some (.lsrAbsX 0x1234#16) ∧
    decodeTableWord 16 0x3426 = some (.rolZp 0x34#8) ∧
    decodeTableWord 8 0x2A = some .rolAcc ∧
    decodeTableWord 24 0x12342E = some (.rolAbs 0x1234#16) ∧
    decodeTableWord 16 0x3436 = some (.rolZpX 0x34#8) ∧
    decodeTableWord 24 0x12343E = some (.rolAbsX 0x1234#16) ∧
    decodeTableWord 16 0x3466 = some (.rorZp 0x34#8) ∧
    decodeTableWord 8 0x6A = some .rorAcc ∧
    decodeTableWord 24 0x12346E = some (.rorAbs 0x1234#16) ∧
    decodeTableWord 16 0x3476 = some (.rorZpX 0x34#8) ∧
    decodeTableWord 24 0x12347E = some (.rorAbsX 0x1234#16) := by
  decide

/-- Each word of the family, its opcode byte from the map of 30_encoding.md R95, its operand bytes 0x34 then 0x12
(R92, R93). -/
theorem test_decode_incdec_and_nop :
    decodeTableWord 16 0x34E6 = some (.incZp 0x34#8) ∧
    decodeTableWord 24 0x1234EE = some (.incAbs 0x1234#16) ∧
    decodeTableWord 16 0x34F6 = some (.incZpX 0x34#8) ∧
    decodeTableWord 24 0x1234FE = some (.incAbsX 0x1234#16) ∧
    decodeTableWord 16 0x34C6 = some (.decZp 0x34#8) ∧
    decodeTableWord 24 0x1234CE = some (.decAbs 0x1234#16) ∧
    decodeTableWord 16 0x34D6 = some (.decZpX 0x34#8) ∧
    decodeTableWord 24 0x1234DE = some (.decAbsX 0x1234#16) ∧
    decodeTableWord 8 0xE8 = some .inx ∧
    decodeTableWord 8 0xC8 = some .iny ∧
    decodeTableWord 8 0xCA = some .dex ∧
    decodeTableWord 8 0x88 = some .dey ∧
    decodeTableWord 8 0xEA = some .nop := by
  decide

/-- The entries marked absent in the map of 30_encoding.md R95 decode to nothing, with every group enabled. -/
theorem test_decode_absent : ∀ op ∈ ([
    0x02#8, 0x03#8, 0x04#8, 0x07#8, 0x0B#8, 0x0C#8, 0x0F#8, 0x12#8, 0x13#8, 0x14#8, 0x17#8, 0x1A#8, 0x1B#8,
    0x1C#8, 0x1F#8, 0x22#8, 0x23#8, 0x27#8, 0x2B#8, 0x2F#8, 0x32#8, 0x33#8, 0x34#8, 0x37#8, 0x3A#8, 0x3B#8,
    0x3C#8, 0x3F#8, 0x42#8, 0x43#8, 0x44#8, 0x47#8, 0x4B#8, 0x4F#8, 0x52#8, 0x53#8, 0x54#8, 0x57#8, 0x5A#8,
    0x5B#8, 0x5C#8, 0x5F#8, 0x62#8, 0x63#8, 0x64#8, 0x67#8, 0x6B#8, 0x6F#8, 0x72#8, 0x73#8, 0x74#8, 0x77#8,
    0x7A#8, 0x7B#8, 0x7C#8, 0x7F#8, 0x80#8, 0x82#8, 0x83#8, 0x87#8, 0x89#8, 0x8B#8, 0x8F#8, 0x92#8, 0x93#8,
    0x97#8, 0x9B#8, 0x9C#8, 0x9E#8, 0x9F#8, 0xA3#8, 0xA7#8, 0xAB#8, 0xAF#8, 0xB2#8, 0xB3#8, 0xB7#8, 0xBB#8,
    0xBF#8, 0xC2#8, 0xC3#8, 0xC7#8, 0xCB#8, 0xCF#8, 0xD2#8, 0xD3#8, 0xD4#8, 0xD7#8, 0xDA#8, 0xDB#8, 0xDC#8,
    0xDF#8, 0xE2#8, 0xE3#8, 0xE7#8, 0xEB#8, 0xEF#8, 0xF2#8, 0xF3#8, 0xF4#8, 0xF7#8, 0xFA#8, 0xFB#8, 0xFC#8,
    0xFF#8] : List Byte),
    decodeTableWord 24 (0x123400 + op.toNat) = none := by
  decide

/-- The decoder refuses a disabled group, an absent opcode and a cut-off instruction, each by its name. -/
theorem test_decode_refusals :
    decode Config.default [0xEA#8] = .error (.disabledGroup 0xEA#8 .nop) ∧
    decode Config.full [0x02#8] = .error (.absentOpcode 0x02#8) ∧
    decode Config.full [0xAD#8, 0x00#8] = .error (.missingOperand 0xAD#8) ∧
    decode Config.full [] = .error .noOpcode :=
  ⟨rfl, rfl, rfl, rfl⟩

/-- 30_encoding.md R92, R93: the opcode byte, then the operand low byte first. -/
theorem test_encode :
    encode (.ldaImm 0x01#8) = [0xA9#8, 0x01#8] ∧ encode (.ldaAbs 0x1234#16) = [0xAD#8, 0x34#8, 0x12#8] ∧
    encode (.jmpAbs 0x0600#16) = [0x4C#8, 0x00#8, 0x06#8] ∧ encode .brk = [0x00#8] := by
  decide

/-! ### One step of an instruction, against 95_test_vectors.md L2 -/

/-- L2.1: LDA #$00: Z=1, N=0 (the §8 property). -/
theorem test_ldaImm :
    seen (given 0x0600#16 [0xA9#8, 0x00#8] 0x00#8 0x00#8 0x00#8 0xFF#8 0x80#8 [] Config.default) [] =
      some (⟨0x00#8, 0x00#8, 0x00#8, 0xFF#8, 0x0602#16, 0x02#8⟩, []) := by
  decide

/-- L2.1: LDA #$80: N=1, Z=0 (the §8 property). -/
theorem test_ldaImm_2 :
    seen (given 0x0600#16 [0xA9#8, 0x80#8] 0x00#8 0x00#8 0x00#8 0xFF#8 0x02#8 [] Config.default) [] =
      some (⟨0x80#8, 0x00#8, 0x00#8, 0xFF#8, 0x0602#16, 0x80#8⟩, []) := by
  decide

/-- L2.1: LDA zp. -/
theorem test_ldaZp :
    seen (given 0x0600#16 [0xA5#8, 0x10#8] 0x00#8 0x00#8 0x00#8 0xFF#8 0x00#8
        [(0x0010#16, 0x7F#8)] Config.default) [] =
      some (⟨0x7F#8, 0x00#8, 0x00#8, 0xFF#8, 0x0602#16, 0x00#8⟩, []) := by
  decide

/-- L2.1: LDA abs at the top of memory. -/
theorem test_ldaAbs :
    seen (given 0x0600#16 [0xAD#8, 0xFF#8, 0xFF#8] 0x00#8 0x00#8 0x00#8 0xFF#8 0x00#8
        [(0xFFFF#16, 0x01#8)] Config.default) [] =
      some (⟨0x01#8, 0x00#8, 0x00#8, 0xFF#8, 0x0603#16, 0x00#8⟩, []) := by
  decide

/-- L2.1: LDX #. -/
theorem test_ldxImm :
    seen (given 0x0600#16 [0xA2#8, 0xFF#8] 0x00#8 0x00#8 0x00#8 0xFF#8 0x00#8 [] Config.default) [] =
      some (⟨0x00#8, 0xFF#8, 0x00#8, 0xFF#8, 0x0602#16, 0x80#8⟩, []) := by
  decide

/-- L2.1: LDX zp of 0x0000. -/
theorem test_ldxZp :
    seen (given 0x0600#16 [0xA6#8, 0x00#8] 0x00#8 0x00#8 0x00#8 0xFF#8 0x80#8
        [(0x0000#16, 0x00#8)] Config.default) [] =
      some (⟨0x00#8, 0x00#8, 0x00#8, 0xFF#8, 0x0602#16, 0x02#8⟩, []) := by
  decide

/-- L2.1: LDX abs. -/
theorem test_ldxAbs :
    seen (given 0x0600#16 [0xAE#8, 0x34#8, 0x12#8] 0x00#8 0x00#8 0x00#8 0xFF#8 0x00#8
        [(0x1234#16, 0x80#8)] Config.default) [] =
      some (⟨0x00#8, 0x80#8, 0x00#8, 0xFF#8, 0x0603#16, 0x80#8⟩, []) := by
  decide

/-- L2.1: LDY #. -/
theorem test_ldyImm :
    seen (given 0x0600#16 [0xA0#8, 0x01#8] 0x00#8 0x00#8 0x00#8 0xFF#8 0x02#8 [] Config.default) [] =
      some (⟨0x00#8, 0x00#8, 0x01#8, 0xFF#8, 0x0602#16, 0x00#8⟩, []) := by
  decide

/-- L2.1: LDY zp of 0x00FF. -/
theorem test_ldyZp :
    seen (given 0x0600#16 [0xA4#8, 0xFF#8] 0x00#8 0x00#8 0x00#8 0xFF#8 0x00#8
        [(0x00FF#16, 0x00#8)] Config.default) [] =
      some (⟨0x00#8, 0x00#8, 0x00#8, 0xFF#8, 0x0602#16, 0x02#8⟩, []) := by
  decide

/-- L2.1: LDY abs. -/
theorem test_ldyAbs :
    seen (given 0x0600#16 [0xAC#8, 0x00#8, 0x02#8] 0x00#8 0x00#8 0x00#8 0xFF#8 0x00#8
        [(0x0200#16, 0xC0#8)] Config.default) [] =
      some (⟨0x00#8, 0x00#8, 0xC0#8, 0xFF#8, 0x0603#16, 0x80#8⟩, []) := by
  decide

/-- L2.1: STA zp: flags unchanged. -/
theorem test_staZp :
    seen (given 0x0600#16 [0x85#8, 0x10#8] 0x00#8 0x00#8 0x00#8 0xFF#8 0x83#8 [] Config.default) [0x0010#16] =
      some (⟨0x00#8, 0x00#8, 0x00#8, 0xFF#8, 0x0602#16, 0x83#8⟩, [0x00#8]) := by
  decide

/-- L2.1: STA abs. -/
theorem test_staAbs :
    seen (given 0x0600#16 [0x8D#8, 0x00#8, 0x02#8] 0x42#8 0x00#8 0x00#8 0xFF#8 0x00#8 []
        Config.default) [0x0200#16] =
      some (⟨0x42#8, 0x00#8, 0x00#8, 0xFF#8, 0x0603#16, 0x00#8⟩, [0x42#8]) := by
  decide

/-- L2.1: STX zp. -/
theorem test_stxZp :
    seen (given 0x0600#16 [0x86#8, 0x20#8] 0x00#8 0x80#8 0x00#8 0xFF#8 0x00#8 [] Config.default) [0x0020#16] =
      some (⟨0x00#8, 0x80#8, 0x00#8, 0xFF#8, 0x0602#16, 0x00#8⟩, [0x80#8]) := by
  decide

/-- L2.1: STX abs of 0xFFFF. -/
theorem test_stxAbs :
    seen (given 0x0600#16 [0x8E#8, 0xFF#8, 0xFF#8] 0x00#8 0x55#8 0x00#8 0xFF#8 0x00#8 []
        Config.default) [0xFFFF#16] =
      some (⟨0x00#8, 0x55#8, 0x00#8, 0xFF#8, 0x0603#16, 0x00#8⟩, [0x55#8]) := by
  decide

/-- L2.1: STY zp. -/
theorem test_styZp :
    seen (given 0x0600#16 [0x84#8, 0x30#8] 0x00#8 0x00#8 0x01#8 0xFF#8 0x00#8 [] Config.default) [0x0030#16] =
      some (⟨0x00#8, 0x00#8, 0x01#8, 0xFF#8, 0x0602#16, 0x00#8⟩, [0x01#8]) := by
  decide

/-- L2.1: STY abs into the stack page. -/
theorem test_styAbs :
    seen (given 0x0600#16 [0x8C#8, 0x00#8, 0x01#8] 0x00#8 0x00#8 0x99#8 0xFF#8 0x00#8 []
        Config.default) [0x0100#16] =
      some (⟨0x00#8, 0x00#8, 0x99#8, 0xFF#8, 0x0603#16, 0x00#8⟩, [0x99#8]) := by
  decide

/-- L2.2: TAX, negative. -/
theorem test_tax :
    seen (given 0x0600#16 [0xAA#8] 0x80#8 0x00#8 0x00#8 0xFF#8 0x00#8 [] Config.default) [] =
      some (⟨0x80#8, 0x80#8, 0x00#8, 0xFF#8, 0x0601#16, 0x80#8⟩, []) := by
  decide

/-- L2.2: TAY, positive: clears N and Z. -/
theorem test_tay :
    seen (given 0x0600#16 [0xA8#8] 0x7F#8 0x00#8 0x00#8 0xFF#8 0x82#8 [] Config.default) [] =
      some (⟨0x7F#8, 0x00#8, 0x7F#8, 0xFF#8, 0x0601#16, 0x00#8⟩, []) := by
  decide

/-- L2.2: TSX sets N from X. -/
theorem test_tsx :
    seen (given 0x0600#16 [0xBA#8] 0x00#8 0x00#8 0x00#8 0xFD#8 0x00#8 [] Config.default) [] =
      some (⟨0x00#8, 0xFD#8, 0x00#8, 0xFD#8, 0x0601#16, 0x80#8⟩, []) := by
  decide

/-- L2.2: TXA. -/
theorem test_txa :
    seen (given 0x0600#16 [0x8A#8] 0x00#8 0xFF#8 0x00#8 0xFF#8 0x00#8 [] Config.default) [] =
      some (⟨0xFF#8, 0xFF#8, 0x00#8, 0xFF#8, 0x0601#16, 0x80#8⟩, []) := by
  decide

/-- L2.2: TXS writes no flag. -/
theorem test_txs :
    seen (given 0x0600#16 [0x9A#8] 0x00#8 0x00#8 0x00#8 0xFF#8 0x80#8 [] Config.default) [] =
      some (⟨0x00#8, 0x00#8, 0x00#8, 0x00#8, 0x0601#16, 0x80#8⟩, []) := by
  decide

/-- L2.2: TYA, zero. -/
theorem test_tya :
    seen (given 0x0600#16 [0x98#8] 0x12#8 0x00#8 0x00#8 0xFF#8 0x00#8 [] Config.default) [] =
      some (⟨0x00#8, 0x00#8, 0x00#8, 0xFF#8, 0x0601#16, 0x02#8⟩, []) := by
  decide

/-- L2.3: AND keeps N. -/
theorem test_andImm :
    seen (given 0x0600#16 [0x29#8, 0xF0#8] 0x80#8 0x00#8 0x00#8 0xFF#8 0x00#8 [] Config.default) [] =
      some (⟨0x80#8, 0x00#8, 0x00#8, 0xFF#8, 0x0602#16, 0x80#8⟩, []) := by
  decide

/-- L2.3: AND zp. -/
theorem test_andZp :
    seen (given 0x0600#16 [0x25#8, 0x10#8] 0xFF#8 0x00#8 0x00#8 0xFF#8 0x82#8
        [(0x0010#16, 0x3C#8)] Config.default) [] =
      some (⟨0x3C#8, 0x00#8, 0x00#8, 0xFF#8, 0x0602#16, 0x00#8⟩, []) := by
  decide

/-- L2.3: AND abs. -/
theorem test_andAbs :
    seen (given 0x0600#16 [0x2D#8, 0x00#8, 0x02#8] 0x81#8 0x00#8 0x00#8 0xFF#8 0x00#8
        [(0x0200#16, 0x81#8)] Config.default) [] =
      some (⟨0x81#8, 0x00#8, 0x00#8, 0xFF#8, 0x0603#16, 0x80#8⟩, []) := by
  decide

/-- L2.3: ORA #. -/
theorem test_oraImm :
    seen (given 0x0600#16 [0x09#8, 0x80#8] 0x01#8 0x00#8 0x00#8 0xFF#8 0x00#8 [] Config.default) [] =
      some (⟨0x81#8, 0x00#8, 0x00#8, 0xFF#8, 0x0602#16, 0x80#8⟩, []) := by
  decide

/-- L2.3: ORA zp. -/
theorem test_oraZp :
    seen (given 0x0600#16 [0x05#8, 0x10#8] 0x00#8 0x00#8 0x00#8 0xFF#8 0x80#8
        [(0x0010#16, 0x00#8)] Config.default) [] =
      some (⟨0x00#8, 0x00#8, 0x00#8, 0xFF#8, 0x0602#16, 0x02#8⟩, []) := by
  decide

/-- L2.3: ORA abs. -/
theorem test_oraAbs :
    seen (given 0x0600#16 [0x0D#8, 0x00#8, 0x02#8] 0x40#8 0x00#8 0x00#8 0xFF#8 0x00#8
        [(0x0200#16, 0x02#8)] Config.default) [] =
      some (⟨0x42#8, 0x00#8, 0x00#8, 0xFF#8, 0x0603#16, 0x00#8⟩, []) := by
  decide

/-- L2.3: EOR inverts. -/
theorem test_eorImm :
    seen (given 0x0600#16 [0x49#8, 0xFF#8] 0x00#8 0x00#8 0x00#8 0xFF#8 0x00#8 [] Config.default) [] =
      some (⟨0xFF#8, 0x00#8, 0x00#8, 0xFF#8, 0x0602#16, 0x80#8⟩, []) := by
  decide

/-- L2.3: EOR zp. -/
theorem test_eorZp :
    seen (given 0x0600#16 [0x45#8, 0x10#8] 0x55#8 0x00#8 0x00#8 0xFF#8 0x00#8
        [(0x0010#16, 0xAA#8)] Config.default) [] =
      some (⟨0xFF#8, 0x00#8, 0x00#8, 0xFF#8, 0x0602#16, 0x80#8⟩, []) := by
  decide

/-- L2.3: EOR abs. -/
theorem test_eorAbs :
    seen (given 0x0600#16 [0x4D#8, 0x00#8, 0x02#8] 0x0F#8 0x00#8 0x00#8 0xFF#8 0x80#8
        [(0x0200#16, 0x0F#8)] Config.default) [] =
      some (⟨0x00#8, 0x00#8, 0x00#8, 0xFF#8, 0x0603#16, 0x02#8⟩, []) := by
  decide

/-- L2.3: BIT: N, V from M; Z from A&M=0. -/
theorem test_bitZp :
    seen (given 0x0600#16 [0x24#8, 0x10#8] 0x01#8 0x00#8 0x00#8 0xFF#8 0x00#8
        [(0x0010#16, 0xC0#8)] Config.default) [] =
      some (⟨0x01#8, 0x00#8, 0x00#8, 0xFF#8, 0x0602#16, 0xC2#8⟩, []) := by
  decide

/-- L2.3: BIT: A&M nonzero, C kept. -/
theorem test_bitZp_2 :
    seen (given 0x0600#16 [0x24#8, 0x10#8] 0xC0#8 0x00#8 0x00#8 0xFF#8 0x83#8
        [(0x0010#16, 0x40#8)] Config.default) [] =
      some (⟨0xC0#8, 0x00#8, 0x00#8, 0xFF#8, 0x0602#16, 0x41#8⟩, []) := by
  decide

/-- L2.3: BIT abs, M=0 clears N and V. -/
theorem test_bitAbs :
    seen (given 0x0600#16 [0x2C#8, 0x00#8, 0x02#8] 0x00#8 0x00#8 0x00#8 0xFF#8 0xC0#8
        [(0x0200#16, 0x00#8)] Config.default) [] =
      some (⟨0x00#8, 0x00#8, 0x00#8, 0xFF#8, 0x0603#16, 0x02#8⟩, []) := by
  decide

/-- L2.4: less: C=0, result 0xFF gives N=1. -/
theorem test_cmpImm :
    seen (given 0x0600#16 [0xC9#8, 0x11#8] 0x10#8 0x00#8 0x00#8 0xFF#8 0x00#8 [] Config.default) [] =
      some (⟨0x10#8, 0x00#8, 0x00#8, 0xFF#8, 0x0602#16, 0x80#8⟩, []) := by
  decide

/-- L2.4: 0xFF vs 1: unsigned compare, C=1, N=1. -/
theorem test_cmpImm_2 :
    seen (given 0x0600#16 [0xC9#8, 0x01#8] 0xFF#8 0x00#8 0x00#8 0xFF#8 0x00#8 [] Config.default) [] =
      some (⟨0xFF#8, 0x00#8, 0x00#8, 0xFF#8, 0x0602#16, 0x81#8⟩, []) := by
  decide

/-- L2.4: CMP zp. -/
theorem test_cmpZp :
    seen (given 0x0600#16 [0xC5#8, 0x10#8] 0x40#8 0x00#8 0x00#8 0xFF#8 0x00#8
        [(0x0010#16, 0x40#8)] Config.default) [] =
      some (⟨0x40#8, 0x00#8, 0x00#8, 0xFF#8, 0x0602#16, 0x03#8⟩, []) := by
  decide

/-- L2.4: CMP abs; V and D untouched. -/
theorem test_cmpAbs :
    seen (given 0x0600#16 [0xCD#8, 0x00#8, 0x02#8] 0x05#8 0x00#8 0x00#8 0xFF#8 0x48#8
        [(0x0200#16, 0x06#8)] Config.default) [] =
      some (⟨0x05#8, 0x00#8, 0x00#8, 0xFF#8, 0x0603#16, 0xC8#8⟩, []) := by
  decide

/-- L2.4: CPX # equal. -/
theorem test_cpxImm :
    seen (given 0x0600#16 [0xE0#8, 0x05#8] 0x00#8 0x05#8 0x00#8 0xFF#8 0x00#8 [] Config.default) [] =
      some (⟨0x00#8, 0x05#8, 0x00#8, 0xFF#8, 0x0602#16, 0x03#8⟩, []) := by
  decide

/-- L2.4: CPX zp. -/
theorem test_cpxZp :
    seen (given 0x0600#16 [0xE4#8, 0x10#8] 0x00#8 0x00#8 0x00#8 0xFF#8 0x00#8
        [(0x0010#16, 0x01#8)] Config.default) [] =
      some (⟨0x00#8, 0x00#8, 0x00#8, 0xFF#8, 0x0602#16, 0x80#8⟩, []) := by
  decide

/-- L2.4: CPX abs. -/
theorem test_cpxAbs :
    seen (given 0x0600#16 [0xEC#8, 0x00#8, 0x02#8] 0x00#8 0x90#8 0x00#8 0xFF#8 0x00#8
        [(0x0200#16, 0x10#8)] Config.default) [] =
      some (⟨0x00#8, 0x90#8, 0x00#8, 0xFF#8, 0x0603#16, 0x81#8⟩, []) := by
  decide

/-- L2.4: CPY # zero. -/
theorem test_cpyImm :
    seen (given 0x0600#16 [0xC0#8, 0x00#8] 0x00#8 0x00#8 0x00#8 0xFF#8 0x00#8 [] Config.default) [] =
      some (⟨0x00#8, 0x00#8, 0x00#8, 0xFF#8, 0x0602#16, 0x03#8⟩, []) := by
  decide

/-- L2.4: CPY zp. -/
theorem test_cpyZp :
    seen (given 0x0600#16 [0xC4#8, 0x10#8] 0x00#8 0x00#8 0x7F#8 0xFF#8 0x00#8
        [(0x0010#16, 0x80#8)] Config.default) [] =
      some (⟨0x00#8, 0x00#8, 0x7F#8, 0xFF#8, 0x0602#16, 0x80#8⟩, []) := by
  decide

/-- L2.4: CPY abs. -/
theorem test_cpyAbs :
    seen (given 0x0600#16 [0xCC#8, 0x00#8, 0x02#8] 0x00#8 0x00#8 0xFF#8 0xFF#8 0x00#8
        [(0x0200#16, 0xFF#8)] Config.default) [] =
      some (⟨0x00#8, 0x00#8, 0xFF#8, 0xFF#8, 0x0603#16, 0x03#8⟩, []) := by
  decide

/-- L2.5: 0x80+0xFF: C=1, V=1. -/
theorem test_adcImm :
    seen (given 0x0600#16 [0x69#8, 0xFF#8] 0x80#8 0x00#8 0x00#8 0xFF#8 0x00#8 [] Config.default) [] =
      some (⟨0x7F#8, 0x00#8, 0x00#8, 0xFF#8, 0x0602#16, 0x41#8⟩, []) := by
  decide

/-- L2.5: 0x7F+0x7F+1 = 0xFF, V=1. -/
theorem test_adcImm_2 :
    seen (given 0x0600#16 [0x69#8, 0x7F#8] 0x7F#8 0x00#8 0x00#8 0xFF#8 0x01#8 [] Config.default) [] =
      some (⟨0xFF#8, 0x00#8, 0x00#8, 0xFF#8, 0x0602#16, 0xC0#8⟩, []) := by
  decide

/-- L2.5: ADC zp, 0x50+0x50: V=1. -/
theorem test_adcZp :
    seen (given 0x0600#16 [0x65#8, 0x10#8] 0x50#8 0x00#8 0x00#8 0xFF#8 0x00#8
        [(0x0010#16, 0x50#8)] Config.default) [] =
      some (⟨0xA0#8, 0x00#8, 0x00#8, 0xFF#8, 0x0602#16, 0xC0#8⟩, []) := by
  decide

/-- L2.5: ADC abs, 0xD0+0x90: C=1, V=1. -/
theorem test_adcAbs :
    seen (given 0x0600#16 [0x6D#8, 0x00#8, 0x02#8] 0xD0#8 0x00#8 0x00#8 0xFF#8 0x00#8
        [(0x0200#16, 0x90#8)] Config.default) [] =
      some (⟨0x60#8, 0x00#8, 0x00#8, 0xFF#8, 0x0603#16, 0x41#8⟩, []) := by
  decide

/-- L2.5: 0x80-1: V=1. -/
theorem test_sbcImm :
    seen (given 0x0600#16 [0xE9#8, 0x01#8] 0x80#8 0x00#8 0x00#8 0xFF#8 0x01#8 [] Config.default) [] =
      some (⟨0x7F#8, 0x00#8, 0x00#8, 0xFF#8, 0x0602#16, 0x41#8⟩, []) := by
  decide

/-- L2.5: 0-0 with C=0: 0xFF, borrow. -/
theorem test_sbcImm_2 :
    seen (given 0x0600#16 [0xE9#8, 0x00#8] 0x00#8 0x00#8 0x00#8 0xFF#8 0x00#8 [] Config.default) [] =
      some (⟨0xFF#8, 0x00#8, 0x00#8, 0xFF#8, 0x0602#16, 0x80#8⟩, []) := by
  decide

/-- L2.5: SBC zp. -/
theorem test_sbcZp :
    seen (given 0x0600#16 [0xE5#8, 0x10#8] 0x10#8 0x00#8 0x00#8 0xFF#8 0x01#8
        [(0x0010#16, 0x20#8)] Config.default) [] =
      some (⟨0xF0#8, 0x00#8, 0x00#8, 0xFF#8, 0x0602#16, 0x80#8⟩, []) := by
  decide

/-- L2.5: SBC abs, 0x50-0xB0: V=1. -/
theorem test_sbcAbs :
    seen (given 0x0600#16 [0xED#8, 0x00#8, 0x02#8] 0x50#8 0x00#8 0x00#8 0xFF#8 0x01#8
        [(0x0200#16, 0xB0#8)] Config.default) [] =
      some (⟨0xA0#8, 0x00#8, 0x00#8, 0xFF#8, 0x0603#16, 0xC0#8⟩, []) := by
  decide

/-- L2.6: BPL with N=0, d=+16. -/
theorem test_bpl :
    seen (given 0x0600#16 [0x10#8, 0x10#8] 0x00#8 0x00#8 0x00#8 0xFF#8 0x00#8 [] Config.default) [] =
      some (⟨0x00#8, 0x00#8, 0x00#8, 0xFF#8, 0x0612#16, 0x00#8⟩, []) := by
  decide

/-- L2.6: BPL with N=1, d=+16. -/
theorem test_bpl_2 :
    seen (given 0x0600#16 [0x10#8, 0x10#8] 0x00#8 0x00#8 0x00#8 0xFF#8 0x80#8 [] Config.default) [] =
      some (⟨0x00#8, 0x00#8, 0x00#8, 0xFF#8, 0x0602#16, 0x80#8⟩, []) := by
  decide

/-- L2.6: BMI with N=0, d=+16. -/
theorem test_bmi :
    seen (given 0x0600#16 [0x30#8, 0x10#8] 0x00#8 0x00#8 0x00#8 0xFF#8 0x00#8 [] Config.default) [] =
      some (⟨0x00#8, 0x00#8, 0x00#8, 0xFF#8, 0x0602#16, 0x00#8⟩, []) := by
  decide

/-- L2.6: BMI with N=1, d=+16. -/
theorem test_bmi_2 :
    seen (given 0x0600#16 [0x30#8, 0x10#8] 0x00#8 0x00#8 0x00#8 0xFF#8 0x80#8 [] Config.default) [] =
      some (⟨0x00#8, 0x00#8, 0x00#8, 0xFF#8, 0x0612#16, 0x80#8⟩, []) := by
  decide

/-- L2.6: BVC with V=0, d=+16. -/
theorem test_bvc :
    seen (given 0x0600#16 [0x50#8, 0x10#8] 0x00#8 0x00#8 0x00#8 0xFF#8 0x00#8 [] Config.default) [] =
      some (⟨0x00#8, 0x00#8, 0x00#8, 0xFF#8, 0x0612#16, 0x00#8⟩, []) := by
  decide

/-- L2.6: BVC with V=1, d=+16. -/
theorem test_bvc_2 :
    seen (given 0x0600#16 [0x50#8, 0x10#8] 0x00#8 0x00#8 0x00#8 0xFF#8 0x40#8 [] Config.default) [] =
      some (⟨0x00#8, 0x00#8, 0x00#8, 0xFF#8, 0x0602#16, 0x40#8⟩, []) := by
  decide

/-- L2.6: BVS with V=0, d=+16. -/
theorem test_bvs :
    seen (given 0x0600#16 [0x70#8, 0x10#8] 0x00#8 0x00#8 0x00#8 0xFF#8 0x00#8 [] Config.default) [] =
      some (⟨0x00#8, 0x00#8, 0x00#8, 0xFF#8, 0x0602#16, 0x00#8⟩, []) := by
  decide

/-- L2.6: BVS with V=1, d=+16. -/
theorem test_bvs_2 :
    seen (given 0x0600#16 [0x70#8, 0x10#8] 0x00#8 0x00#8 0x00#8 0xFF#8 0x40#8 [] Config.default) [] =
      some (⟨0x00#8, 0x00#8, 0x00#8, 0xFF#8, 0x0612#16, 0x40#8⟩, []) := by
  decide

/-- L2.6: BCC with C=0, d=+16. -/
theorem test_bcc :
    seen (given 0x0600#16 [0x90#8, 0x10#8] 0x00#8 0x00#8 0x00#8 0xFF#8 0x00#8 [] Config.default) [] =
      some (⟨0x00#8, 0x00#8, 0x00#8, 0xFF#8, 0x0612#16, 0x00#8⟩, []) := by
  decide

/-- L2.6: BCC with C=1, d=+16. -/
theorem test_bcc_2 :
    seen (given 0x0600#16 [0x90#8, 0x10#8] 0x00#8 0x00#8 0x00#8 0xFF#8 0x01#8 [] Config.default) [] =
      some (⟨0x00#8, 0x00#8, 0x00#8, 0xFF#8, 0x0602#16, 0x01#8⟩, []) := by
  decide

/-- L2.6: BCS with C=0, d=+16. -/
theorem test_bcs :
    seen (given 0x0600#16 [0xB0#8, 0x10#8] 0x00#8 0x00#8 0x00#8 0xFF#8 0x00#8 [] Config.default) [] =
      some (⟨0x00#8, 0x00#8, 0x00#8, 0xFF#8, 0x0602#16, 0x00#8⟩, []) := by
  decide

/-- L2.6: BCS with C=1, d=+16. -/
theorem test_bcs_2 :
    seen (given 0x0600#16 [0xB0#8, 0x10#8] 0x00#8 0x00#8 0x00#8 0xFF#8 0x01#8 [] Config.default) [] =
      some (⟨0x00#8, 0x00#8, 0x00#8, 0xFF#8, 0x0612#16, 0x01#8⟩, []) := by
  decide

/-- L2.6: BNE with Z=1, d=+16. -/
theorem test_bne_2 :
    seen (given 0x0600#16 [0xD0#8, 0x10#8] 0x00#8 0x00#8 0x00#8 0xFF#8 0x02#8 [] Config.default) [] =
      some (⟨0x00#8, 0x00#8, 0x00#8, 0xFF#8, 0x0602#16, 0x02#8⟩, []) := by
  decide

/-- L2.6: BEQ d=-128: pc0-126. -/
theorem test_beq :
    seen (given 0x0600#16 [0xF0#8, 0x80#8] 0x00#8 0x00#8 0x00#8 0xFF#8 0x02#8 [] Config.default) [] =
      some (⟨0x00#8, 0x00#8, 0x00#8, 0xFF#8, 0x0582#16, 0x02#8⟩, []) := by
  decide

/-- L2.6: BNE target wraps below 0x0000. -/
theorem test_bne :
    seen (given 0x0005#16 [0xD0#8, 0xF0#8] 0x00#8 0x00#8 0x00#8 0xFF#8 0x00#8 [] Config.default) [] =
      some (⟨0x00#8, 0x00#8, 0x00#8, 0xFF#8, 0xFFF7#16, 0x00#8⟩, []) := by
  decide

/-- L2.6: BEQ at 0xFFFF, operand at 0x0000, not taken (Z=0): PC=0x0001. -/
theorem test_beq_2 :
    seen (given 0xFFFF#16 [0xF0#8, 0x05#8] 0x00#8 0x00#8 0x00#8 0xFF#8 0x00#8 [] Config.default) [] =
      some (⟨0x00#8, 0x00#8, 0x00#8, 0xFF#8, 0x0001#16, 0x00#8⟩, []) := by
  decide

/-- L2.7: JMP abs. -/
theorem test_jmpAbs :
    seen (given 0x0600#16 [0x4C#8, 0x00#8, 0x80#8] 0x00#8 0x00#8 0x00#8 0xFF#8 0x00#8 [] Config.default) [] =
      some (⟨0x00#8, 0x00#8, 0x00#8, 0xFF#8, 0x8000#16, 0x00#8⟩, []) := by
  decide

/-- L2.7: JMP ind page-wrap quirk: high byte from 0x0200. -/
theorem test_jmpInd :
    seen (given 0x0600#16 [0x6C#8, 0xFF#8, 0x02#8] 0x00#8 0x00#8 0x00#8 0xFF#8 0x00#8
        [(0x02FF#16, 0x34#8), (0x0200#16, 0x12#8), (0x0300#16, 0x56#8)] Config.default) [] =
      some (⟨0x00#8, 0x00#8, 0x00#8, 0xFF#8, 0x1234#16, 0x00#8⟩, []) := by
  decide

/-- L2.7: JMP ind with pointer 0xFFFF: high byte from 0xFF00. -/
theorem test_jmpInd_2 :
    seen (given 0x0600#16 [0x6C#8, 0xFF#8, 0xFF#8] 0x00#8 0x00#8 0x00#8 0xFF#8 0x00#8
        [(0xFFFF#16, 0x78#8), (0xFF00#16, 0x56#8), (0x0000#16, 0x99#8)] Config.default) [] =
      some (⟨0x00#8, 0x00#8, 0x00#8, 0xFF#8, 0x5678#16, 0x00#8⟩, []) := by
  decide

/-- L2.7: JSR with SP=0: stack wraps. -/
theorem test_jsr :
    seen (given 0x0600#16 [0x20#8, 0x00#8, 0x80#8] 0x00#8 0x00#8 0x00#8 0x00#8 0x00#8 []
        Config.default) [0x0100#16, 0x01FF#16] =
      some (⟨0x00#8, 0x00#8, 0x00#8, 0xFE#8, 0x8000#16, 0x00#8⟩, [0x06#8, 0x02#8]) := by
  decide

/-- L2.7: JSR at 0xFFFE: operand high byte is read from 0x0000 (=80); return address 0x0000 is pushed as 00, 00. -/
theorem test_jsr_2 :
    seen (given 0xFFFE#16 [0x20#8, 0x00#8, 0x80#8] 0x00#8 0x00#8 0x00#8 0xFF#8 0x00#8 []
        Config.default) [0x01FF#16, 0x01FE#16] =
      some (⟨0x00#8, 0x00#8, 0x00#8, 0xFD#8, 0x8000#16, 0x00#8⟩, [0x00#8, 0x00#8]) := by
  decide

/-- L2.7: RTS to 0xFFFF+1 = 0x0000. -/
theorem test_rts_2 :
    seen (given 0x0600#16 [0x60#8] 0x00#8 0x00#8 0x00#8 0xFD#8 0x00#8
        [(0x01FE#16, 0xFF#8), (0x01FF#16, 0xFF#8)] Config.default) [] =
      some (⟨0x00#8, 0x00#8, 0x00#8, 0xFF#8, 0x0000#16, 0x00#8⟩, []) := by
  decide

/-- L2.7: RTS with SP=0xFF: wraps to 0x0100. -/
theorem test_rts :
    seen (given 0x0600#16 [0x60#8] 0x00#8 0x00#8 0x00#8 0xFF#8 0x00#8
        [(0x0100#16, 0x10#8), (0x0101#16, 0x20#8)] Config.default) [] =
      some (⟨0x00#8, 0x00#8, 0x00#8, 0x01#8, 0x2011#16, 0x00#8⟩, []) := by
  decide

/-- L2.7: RTI: P from 0xFF, bit 5 ignored; PC=0x0602. -/
theorem test_rti :
    seen (given 0x0600#16 [0x40#8] 0x00#8 0x00#8 0x00#8 0xFC#8 0x00#8
        [(0x01FD#16, 0xFF#8), (0x01FE#16, 0x02#8), (0x01FF#16, 0x06#8)] Config.default) [] =
      some (⟨0x00#8, 0x00#8, 0x00#8, 0xFF#8, 0x0602#16, 0xDF#8⟩, []) := by
  decide

/-- L2.7: RTI with P byte 0x20: all flags 0. -/
theorem test_rti_2 :
    seen (given 0x0600#16 [0x40#8] 0x00#8 0x00#8 0x00#8 0xFC#8 0x81#8
        [(0x01FD#16, 0x20#8), (0x01FE#16, 0x00#8), (0x01FF#16, 0x80#8)] Config.default) [] =
      some (⟨0x00#8, 0x00#8, 0x00#8, 0xFF#8, 0x8000#16, 0x00#8⟩, []) := by
  decide

/-- L2.8: PHA with SP=0 wraps. -/
theorem test_pha :
    seen (given 0x0600#16 [0x48#8] 0x42#8 0x00#8 0x00#8 0x00#8 0x00#8 [] Config.default) [0x0100#16] =
      some (⟨0x42#8, 0x00#8, 0x00#8, 0xFF#8, 0x0601#16, 0x00#8⟩, [0x42#8]) := by
  decide

/-- L2.8: PLA: no flag change by default. -/
theorem test_pla :
    seen (given 0x0600#16 [0x68#8] 0x00#8 0x00#8 0x00#8 0xFE#8 0x80#8 [(0x01FF#16, 0x00#8)] Config.default) [] =
      some (⟨0x00#8, 0x00#8, 0x00#8, 0xFF#8, 0x0601#16, 0x80#8⟩, []) := by
  decide

/-- L2.8: PLA with PLA_SETS_NZ=true. -/
theorem test_pla_2 :
    seen (given 0x0600#16 [0x68#8] 0x00#8 0x00#8 0x00#8 0xFE#8 0x00#8 [(0x01FF#16, 0x80#8)] plaFlags) [] =
      some (⟨0x80#8, 0x00#8, 0x00#8, 0xFF#8, 0x0601#16, 0x80#8⟩, []) := by
  decide

/-- L2.8: PHP pushes 0xDF (bit 5 = 0). -/
theorem test_php :
    seen (given 0x0600#16 [0x08#8] 0x00#8 0x00#8 0x00#8 0xFF#8 0xDF#8 [] Config.default) [0x01FF#16] =
      some (⟨0x00#8, 0x00#8, 0x00#8, 0xFE#8, 0x0601#16, 0xDF#8⟩, [0xDF#8]) := by
  decide

/-- L2.8: PLP 0xFF: all seven flags, P=0xDF. -/
theorem test_plp :
    seen (given 0x0600#16 [0x28#8] 0x00#8 0x00#8 0x00#8 0xFE#8 0x00#8 [(0x01FF#16, 0xFF#8)] Config.default) [] =
      some (⟨0x00#8, 0x00#8, 0x00#8, 0xFF#8, 0x0601#16, 0xDF#8⟩, []) := by
  decide

/-- L2.8: PLP 0x20: all flags cleared. -/
theorem test_plp_2 :
    seen (given 0x0600#16 [0x28#8] 0x00#8 0x00#8 0x00#8 0xFE#8 0xDF#8 [(0x01FF#16, 0x20#8)] Config.default) [] =
      some (⟨0x00#8, 0x00#8, 0x00#8, 0xFF#8, 0x0601#16, 0x00#8⟩, []) := by
  decide

/-- L2.9: CLC: only C changes. -/
theorem test_clc :
    seen (given 0x0600#16 [0x18#8] 0x00#8 0x00#8 0x00#8 0xFF#8 0xDF#8 [] Config.default) [] =
      some (⟨0x00#8, 0x00#8, 0x00#8, 0xFF#8, 0x0601#16, 0xDE#8⟩, []) := by
  decide

/-- L2.9: SEC: only C changes. -/
theorem test_sec :
    seen (given 0x0600#16 [0x38#8] 0x00#8 0x00#8 0x00#8 0xFF#8 0x00#8 [] Config.default) [] =
      some (⟨0x00#8, 0x00#8, 0x00#8, 0xFF#8, 0x0601#16, 0x01#8⟩, []) := by
  decide

/-- L2.9: CLI: only I changes. -/
theorem test_cli :
    seen (given 0x0600#16 [0x58#8] 0x00#8 0x00#8 0x00#8 0xFF#8 0xDF#8 [] Config.default) [] =
      some (⟨0x00#8, 0x00#8, 0x00#8, 0xFF#8, 0x0601#16, 0xDB#8⟩, []) := by
  decide

/-- L2.9: SEI: only I changes. -/
theorem test_sei :
    seen (given 0x0600#16 [0x78#8] 0x00#8 0x00#8 0x00#8 0xFF#8 0x00#8 [] Config.default) [] =
      some (⟨0x00#8, 0x00#8, 0x00#8, 0xFF#8, 0x0601#16, 0x04#8⟩, []) := by
  decide

/-- L2.9: CLV: only V changes. -/
theorem test_clv :
    seen (given 0x0600#16 [0xB8#8] 0x00#8 0x00#8 0x00#8 0xFF#8 0xDF#8 [] Config.default) [] =
      some (⟨0x00#8, 0x00#8, 0x00#8, 0xFF#8, 0x0601#16, 0x9F#8⟩, []) := by
  decide

/-- L2.9: CLD: only D changes. -/
theorem test_cld :
    seen (given 0x0600#16 [0xD8#8] 0x00#8 0x00#8 0x00#8 0xFF#8 0xDF#8 [] Config.default) [] =
      some (⟨0x00#8, 0x00#8, 0x00#8, 0xFF#8, 0x0601#16, 0xD7#8⟩, []) := by
  decide

/-- L2.9: SED: only D changes. -/
theorem test_sed :
    seen (given 0x0600#16 [0xF8#8] 0x00#8 0x00#8 0x00#8 0xFF#8 0x00#8 [] Config.default) [] =
      some (⟨0x00#8, 0x00#8, 0x00#8, 0xFF#8, 0x0601#16, 0x08#8⟩, []) := by
  decide

/-- L2.10: BRK, Interrupt mode (the 47_flags_brk.md rule R261 example). -/
theorem test_brk :
    seen (given 0x0605#16 [0x00#8] 0x00#8 0x00#8 0x00#8 0xFF#8 0x00#8
        [(0xFFFE#16, 0x00#8), (0xFFFF#16, 0x80#8)] Config.default) [0x01FF#16, 0x01FE#16, 0x01FD#16] =
      some (⟨0x00#8, 0x00#8, 0x00#8, 0xFC#8, 0x8000#16, 0x14#8⟩, [0x06#8, 0x07#8, 0x10#8]) := by
  decide

/-- L2.10: BRK with SP=1: the third push wraps to 0x01FF. -/
theorem test_brk_2 :
    seen (given 0x0605#16 [0x00#8] 0x00#8 0x00#8 0x00#8 0x01#8 0x00#8
        [(0xFFFE#16, 0x00#8), (0xFFFF#16, 0x80#8)] Config.default) [0x0101#16, 0x0100#16, 0x01FF#16] =
      some (⟨0x00#8, 0x00#8, 0x00#8, 0xFE#8, 0x8000#16, 0x14#8⟩, [0x06#8, 0x07#8, 0x10#8]) := by
  decide

/-- L2.11: ASL A to zero. -/
theorem test_aslAcc :
    seen (given 0x0600#16 [0x0A#8] 0x80#8 0x00#8 0x00#8 0xFF#8 0x00#8 [] Config.default) [] =
      some (⟨0x00#8, 0x00#8, 0x00#8, 0xFF#8, 0x0601#16, 0x03#8⟩, []) := by
  decide

/-- L2.11: ASL zp. -/
theorem test_aslZp :
    seen (given 0x0600#16 [0x06#8, 0x10#8] 0x00#8 0x00#8 0x00#8 0xFF#8 0x00#8
        [(0x0010#16, 0x55#8)] Config.default) [0x0010#16] =
      some (⟨0x00#8, 0x00#8, 0x00#8, 0xFF#8, 0x0602#16, 0x80#8⟩, [0xAA#8]) := by
  decide

/-- L2.11: ASL abs. -/
theorem test_aslAbs :
    seen (given 0x0600#16 [0x0E#8, 0x00#8, 0x02#8] 0x00#8 0x00#8 0x00#8 0xFF#8 0x00#8
        [(0x0200#16, 0xFF#8)] Config.default) [0x0200#16] =
      some (⟨0x00#8, 0x00#8, 0x00#8, 0xFF#8, 0x0603#16, 0x81#8⟩, [0xFE#8]) := by
  decide

/-- L2.11: LSR A: N always 0. -/
theorem test_lsrAcc :
    seen (given 0x0600#16 [0x4A#8] 0x80#8 0x00#8 0x00#8 0xFF#8 0x80#8 [] Config.default) [] =
      some (⟨0x40#8, 0x00#8, 0x00#8, 0xFF#8, 0x0601#16, 0x00#8⟩, []) := by
  decide

/-- L2.11: LSR zp. -/
theorem test_lsrZp :
    seen (given 0x0600#16 [0x46#8, 0x10#8] 0x00#8 0x00#8 0x00#8 0xFF#8 0x00#8
        [(0x0010#16, 0x03#8)] Config.default) [0x0010#16] =
      some (⟨0x00#8, 0x00#8, 0x00#8, 0xFF#8, 0x0602#16, 0x01#8⟩, [0x01#8]) := by
  decide

/-- L2.11: LSR abs. -/
theorem test_lsrAbs :
    seen (given 0x0600#16 [0x4E#8, 0x00#8, 0x02#8] 0x00#8 0x00#8 0x00#8 0xFF#8 0x01#8
        [(0x0200#16, 0xFE#8)] Config.default) [0x0200#16] =
      some (⟨0x00#8, 0x00#8, 0x00#8, 0xFF#8, 0x0603#16, 0x00#8⟩, [0x7F#8]) := by
  decide

/-- L2.11: ROL A, carry in. -/
theorem test_rolAcc :
    seen (given 0x0600#16 [0x2A#8] 0x40#8 0x00#8 0x00#8 0xFF#8 0x01#8 [] Config.default) [] =
      some (⟨0x81#8, 0x00#8, 0x00#8, 0xFF#8, 0x0601#16, 0x80#8⟩, []) := by
  decide

/-- L2.11: ROL zp. -/
theorem test_rolZp :
    seen (given 0x0600#16 [0x26#8, 0x10#8] 0x00#8 0x00#8 0x00#8 0xFF#8 0x01#8
        [(0x0010#16, 0x00#8)] Config.default) [0x0010#16] =
      some (⟨0x00#8, 0x00#8, 0x00#8, 0xFF#8, 0x0602#16, 0x00#8⟩, [0x01#8]) := by
  decide

/-- L2.11: ROL abs. -/
theorem test_rolAbs :
    seen (given 0x0600#16 [0x2E#8, 0x00#8, 0x02#8] 0x00#8 0x00#8 0x00#8 0xFF#8 0x00#8
        [(0x0200#16, 0xFF#8)] Config.default) [0x0200#16] =
      some (⟨0x00#8, 0x00#8, 0x00#8, 0xFF#8, 0x0603#16, 0x81#8⟩, [0xFE#8]) := by
  decide

/-- L2.11: ROR A, carry in. -/
theorem test_rorAcc :
    seen (given 0x0600#16 [0x6A#8] 0x02#8 0x00#8 0x00#8 0xFF#8 0x01#8 [] Config.default) [] =
      some (⟨0x81#8, 0x00#8, 0x00#8, 0xFF#8, 0x0601#16, 0x80#8⟩, []) := by
  decide

/-- L2.11: ROR zp. -/
theorem test_rorZp :
    seen (given 0x0600#16 [0x66#8, 0x10#8] 0x00#8 0x00#8 0x00#8 0xFF#8 0x01#8
        [(0x0010#16, 0x00#8)] Config.default) [0x0010#16] =
      some (⟨0x00#8, 0x00#8, 0x00#8, 0xFF#8, 0x0602#16, 0x80#8⟩, [0x80#8]) := by
  decide

/-- L2.11: ROR abs. -/
theorem test_rorAbs :
    seen (given 0x0600#16 [0x6E#8, 0x00#8, 0x02#8] 0x00#8 0x00#8 0x00#8 0xFF#8 0x01#8
        [(0x0200#16, 0x01#8)] Config.default) [0x0200#16] =
      some (⟨0x00#8, 0x00#8, 0x00#8, 0xFF#8, 0x0603#16, 0x81#8⟩, [0x80#8]) := by
  decide

/-- L2.12: INC zp wraps; C kept. -/
theorem test_incZp :
    seen (given 0x0600#16 [0xE6#8, 0x10#8] 0x00#8 0x00#8 0x00#8 0xFF#8 0x01#8
        [(0x0010#16, 0xFF#8)] Config.full) [0x0010#16] =
      some (⟨0x00#8, 0x00#8, 0x00#8, 0xFF#8, 0x0602#16, 0x03#8⟩, [0x00#8]) := by
  decide

/-- L2.12: INC abs. -/
theorem test_incAbs :
    seen (given 0x0600#16 [0xEE#8, 0x00#8, 0x02#8] 0x00#8 0x00#8 0x00#8 0xFF#8 0x00#8
        [(0x0200#16, 0x7F#8)] Config.full) [0x0200#16] =
      some (⟨0x00#8, 0x00#8, 0x00#8, 0xFF#8, 0x0603#16, 0x80#8⟩, [0x80#8]) := by
  decide

/-- L2.12: DEC zp to zero. -/
theorem test_decZp :
    seen (given 0x0600#16 [0xC6#8, 0x10#8] 0x00#8 0x00#8 0x00#8 0xFF#8 0x00#8
        [(0x0010#16, 0x01#8)] Config.full) [0x0010#16] =
      some (⟨0x00#8, 0x00#8, 0x00#8, 0xFF#8, 0x0602#16, 0x02#8⟩, [0x00#8]) := by
  decide

/-- L2.12: DEC abs wraps. -/
theorem test_decAbs :
    seen (given 0x0600#16 [0xCE#8, 0x00#8, 0x02#8] 0x00#8 0x00#8 0x00#8 0xFF#8 0x00#8
        [(0x0200#16, 0x00#8)] Config.full) [0x0200#16] =
      some (⟨0x00#8, 0x00#8, 0x00#8, 0xFF#8, 0x0603#16, 0x80#8⟩, [0xFF#8]) := by
  decide

/-- L2.12: INX wraps. -/
theorem test_inx :
    seen (given 0x0600#16 [0xE8#8] 0x00#8 0xFF#8 0x00#8 0xFF#8 0x00#8 [] Config.full) [] =
      some (⟨0x00#8, 0x00#8, 0x00#8, 0xFF#8, 0x0601#16, 0x02#8⟩, []) := by
  decide

/-- L2.12: INY. -/
theorem test_iny :
    seen (given 0x0600#16 [0xC8#8] 0x00#8 0x00#8 0x7F#8 0xFF#8 0x00#8 [] Config.full) [] =
      some (⟨0x00#8, 0x00#8, 0x80#8, 0xFF#8, 0x0601#16, 0x80#8⟩, []) := by
  decide

/-- L2.12: DEX wraps. -/
theorem test_dex :
    seen (given 0x0600#16 [0xCA#8] 0x00#8 0x00#8 0x00#8 0xFF#8 0x00#8 [] Config.full) [] =
      some (⟨0x00#8, 0xFF#8, 0x00#8, 0xFF#8, 0x0601#16, 0x80#8⟩, []) := by
  decide

/-- L2.12: DEY to zero. -/
theorem test_dey :
    seen (given 0x0600#16 [0x88#8] 0x00#8 0x00#8 0x01#8 0xFF#8 0x00#8 [] Config.full) [] =
      some (⟨0x00#8, 0x00#8, 0x00#8, 0xFF#8, 0x0601#16, 0x02#8⟩, []) := by
  decide

/-- L2.12: NOP. -/
theorem test_nop :
    seen (given 0x0600#16 [0xEA#8] 0x12#8 0x00#8 0x00#8 0xFF#8 0x82#8 [] Config.full) [] =
      some (⟨0x12#8, 0x00#8, 0x00#8, 0xFF#8, 0x0601#16, 0x82#8⟩, []) := by
  decide

/-- L2.13: LDA zp,X wraps in zero page: EA 0x0010. -/
theorem test_ldaZpX :
    seen (given 0x0600#16 [0xB5#8, 0xF0#8] 0x00#8 0x20#8 0x00#8 0xFF#8 0x00#8
        [(0x0010#16, 0x77#8)] Config.full) [] =
      some (⟨0x77#8, 0x20#8, 0x00#8, 0xFF#8, 0x0602#16, 0x00#8⟩, []) := by
  decide

/-- L2.13: LDX zp,Y: EA 0x0000. -/
theorem test_ldxZpY :
    seen (given 0x0600#16 [0xB6#8, 0xFF#8] 0x00#8 0x00#8 0x01#8 0xFF#8 0x00#8
        [(0x0000#16, 0x80#8)] Config.full) [] =
      some (⟨0x00#8, 0x80#8, 0x01#8, 0xFF#8, 0x0602#16, 0x80#8⟩, []) := by
  decide

/-- L2.13: LDA abs,X crosses a page: EA 0x0300. -/
theorem test_ldaAbsX :
    seen (given 0x0600#16 [0xBD#8, 0xFF#8, 0x02#8] 0x00#8 0x01#8 0x00#8 0xFF#8 0x00#8
        [(0x0300#16, 0x05#8)] Config.full) [] =
      some (⟨0x05#8, 0x01#8, 0x00#8, 0xFF#8, 0x0603#16, 0x00#8⟩, []) := by
  decide

/-- L2.13: STA abs,Y wraps: EA 0x0001. -/
theorem test_staAbsY :
    seen (given 0x0600#16 [0x99#8, 0xFF#8, 0xFF#8] 0xAB#8 0x00#8 0x02#8 0xFF#8 0x00#8 [] Config.full) [0x0001#16] =
      some (⟨0xAB#8, 0x00#8, 0x02#8, 0xFF#8, 0x0603#16, 0x00#8⟩, [0xAB#8]) := by
  decide

/-- L2.13: LDA (zp,X): pointer at 0x00FF/0x0000. -/
theorem test_ldaIndX :
    seen (given 0x0600#16 [0xA1#8, 0xFE#8] 0x00#8 0x01#8 0x00#8 0xFF#8 0x00#8
        [(0x00FF#16, 0x00#8), (0x0000#16, 0x03#8), (0x0300#16, 0x44#8)] Config.full) [] =
      some (⟨0x44#8, 0x01#8, 0x00#8, 0xFF#8, 0x0602#16, 0x00#8⟩, []) := by
  decide

/-- L2.13: LDA (zp),Y: EA 0x1310. -/
theorem test_ldaIndY :
    seen (given 0x0600#16 [0xB1#8, 0x10#8] 0x00#8 0x00#8 0x20#8 0xFF#8 0x00#8
        [(0x0010#16, 0xF0#8), (0x0011#16, 0x12#8), (0x1310#16, 0x9A#8)] Config.full) [] =
      some (⟨0x9A#8, 0x00#8, 0x20#8, 0xFF#8, 0x0602#16, 0x80#8⟩, []) := by
  decide

/-- L2.13: STA (zp),Y: pointer wraps to 0x0000. -/
theorem test_staIndY :
    seen (given 0x0600#16 [0x91#8, 0xFF#8] 0x5A#8 0x00#8 0x00#8 0xFF#8 0x00#8
        [(0x00FF#16, 0x00#8), (0x0000#16, 0x04#8)] Config.full) [0x0400#16] =
      some (⟨0x5A#8, 0x00#8, 0x00#8, 0xFF#8, 0x0602#16, 0x00#8⟩, [0x5A#8]) := by
  decide

/-- L2.13: ASL zp,X (IDX+SHIFT): EA 0x0001. -/
theorem test_aslZpX :
    seen (given 0x0600#16 [0x16#8, 0xFF#8] 0x00#8 0x02#8 0x00#8 0xFF#8 0x00#8
        [(0x0001#16, 0x81#8)] Config.full) [0x0001#16] =
      some (⟨0x00#8, 0x02#8, 0x00#8, 0xFF#8, 0x0602#16, 0x01#8⟩, [0x02#8]) := by
  decide

/-- L2.13: INC abs,X (IDX+INCDEC): EA 0x0100. -/
theorem test_incAbsX :
    seen (given 0x0600#16 [0xFE#8, 0xFF#8, 0x00#8] 0x00#8 0x01#8 0x00#8 0xFF#8 0x00#8
        [(0x0100#16, 0xFF#8)] Config.full) [0x0100#16] =
      some (⟨0x00#8, 0x01#8, 0x00#8, 0xFF#8, 0x0603#16, 0x02#8⟩, [0x00#8]) := by
  decide

/-- L2.11: G_SHIFT=false: 0x0A is absent. -/
theorem test_fault_aslAcc :
    stops (given 0x0600#16 [0x0A#8] 0x81#8 0x00#8 0x00#8 0xFF#8 0x00#8 []
        noShift) = some (.invalidOpcode 0x0A#8 0x0600#16) := by
  decide

/-- L2.12: default: 0xE8 is absent. -/
theorem test_fault_inx :
    stops (given 0x0600#16 [0xE8#8] 0x00#8 0x00#8 0x00#8 0xFF#8 0x00#8 []
        Config.default) = some (.invalidOpcode 0xE8#8 0x0600#16) := by
  decide

/-- L2.12: default: 0xEA is absent. -/
theorem test_fault_nop :
    stops (given 0x0600#16 [0xEA#8] 0x00#8 0x00#8 0x00#8 0xFF#8 0x00#8 []
        Config.default) = some (.invalidOpcode 0xEA#8 0x0600#16) := by
  decide

/-- L2.13: default: 0xB5 is absent. -/
theorem test_fault_ldaZpX :
    stops (given 0x0600#16 [0xB5#8, 0x10#8] 0x00#8 0x00#8 0x00#8 0xFF#8 0x00#8 []
        Config.default) = some (.invalidOpcode 0xB5#8 0x0600#16) := by
  decide

/-- L2.14: absent in every configuration. -/
theorem test_fault_absent :
    stops (given 0x0600#16 [0xFF#8, 0x12#8, 0x34#8] 0x11#8 0x00#8 0x00#8 0xFF#8 0x01#8 []
        Config.default) = some (.invalidOpcode 0xFF#8 0x0600#16) := by
  decide

/-- Group IDX on instructions that 95_test_vectors.md has no vector for, worked out by hand from
40_sequencer_addressing.md R138 to R143: CMP (zp),Y, EOR (zp,X) and DEC abs,X. -/
theorem test_indexed_forms :
    seen (given 0x0600#16 [0xD1#8, 0x10#8] 0x05#8 0x00#8 0x01#8 0xFF#8 0x00#8
        [(0x0010#16, 0xFF#8), (0x0011#16, 0x02#8), (0x0300#16, 0x05#8)] Config.full) [] =
      some (⟨0x05#8, 0x00#8, 0x01#8, 0xFF#8, 0x0602#16, 0x03#8⟩, []) ∧
    seen (given 0x0600#16 [0x41#8, 0x10#8] 0xF0#8 0xF0#8 0x00#8 0xFF#8 0x00#8
        [(0x0000#16, 0x00#8), (0x0001#16, 0x04#8), (0x0400#16, 0xFF#8)] Config.full) [] =
      some (⟨0x0F#8, 0xF0#8, 0x00#8, 0xFF#8, 0x0602#16, 0x00#8⟩, []) ∧
    seen (given 0x0600#16 [0xDE#8, 0xFF#8, 0x02#8] 0x00#8 0x01#8 0x00#8 0xFF#8 0x01#8 [] Config.full) [0x0300#16] =
      some (⟨0x00#8, 0x01#8, 0x00#8, 0xFF#8, 0x0603#16, 0x81#8⟩, [0xFF#8]) := by
  decide

/-! ### Reset, loading and host stepping, against 95_test_vectors.md L2.15 -/

/-- H10: after reset with no load, the first step executes BRK at 0x0000. -/
theorem test_reset_step :
    seen State.reset [0x01FF#16, 0x01FE#16, 0x01FD#16] =
      some (⟨0x00#8, 0x00#8, 0x00#8, 0xFC#8, 0x0000#16, 0x14#8⟩, [0x00#8, 0x02#8, 0x10#8]) := by
  decide

/-- E3 and H2: LDA #$01 loaded at the default base sets A = 1 and PC = 0x0602. -/
theorem test_load_then_step :
    (match State.reset.loadDefault [0xA9#8, 0x01#8] with
      | .ok s => seen s [0x0600#16, 0x0601#16]
      | .error _ => none) =
      some (⟨0x01#8, 0x00#8, 0x00#8, 0xFF#8, 0x0602#16, 0x00#8⟩, [0xA9#8, 0x01#8]) := by
  decide

/-- H3 and H4: one byte fits at 0xFFFF, two do not. -/
theorem test_load_bounds :
    (match State.reset.loadProgram [0xEA#8] 0xFFFF#16 with
      | .ok s => some (s.pc, s.read 0xFFFF#16)
      | .error _ => none) = some (0xFFFF#16, 0xEA#8) ∧
    State.reset.loadProgram [0x01#8, 0x02#8] 0xFFFF#16 = .error .programTooLarge :=
  ⟨by decide, rfl⟩

/-- H6: tick(3) over LDA #$07 and an absent opcode reports InvalidOpcode(0x02, 0x0602) and latches it. -/
theorem test_tick_stops_at_fault :
    ((running [0xA9#8, 0x07#8, 0x02#8, 0x00#8]).tick 3).1.snapshot =
        ⟨0x07#8, 0x00#8, 0x00#8, 0xFF#8, 0x0602#16, 0x00#8⟩ ∧
    ((running [0xA9#8, 0x07#8, 0x02#8, 0x00#8]).tick 3).1.fault = some { opcode := 0x02#8, pc := 0x0602#16 } := by
  decide

/-- E8: run_until_break on LDA #$01, TAX, BRK. -/
theorem test_run_until_break :
    ((running [0xA9#8, 0x01#8, 0xAA#8, 0x00#8]).runUntilBreak 10).2 = .breakEnd ∧
    ((running [0xA9#8, 0x01#8, 0xAA#8, 0x00#8]).runUntilBreak 10).1.x = 0x01#8 := by
  decide

/-- 95_test_vectors.md P7: run_until_break on LDA #$01 and an absent opcode stops at the fault. -/
theorem test_run_until_break_fault :
    ((running [0xA9#8, 0x01#8, 0x02#8, 0x00#8]).runUntilBreak 10).2 =
        .faultEnd (.fault (.invalidOpcode 0x02#8 0x0602#16)) ∧
    ((running [0xA9#8, 0x01#8, 0x02#8, 0x00#8]).runUntilBreak 10).1.fault =
        some { opcode := 0x02#8, pc := 0x0602#16 } := by
  decide

/-- 95_test_vectors.md P4: the accesses of the JMP ($02FF) step, in order. -/
theorem test_bus_jmp_indirect :
    (stepTransactions (given 0x060F#16 [0x6C#8, 0xFF#8, 0x02#8] 0x09#8 0x00#8 0x00#8 0xFF#8 0x00#8
        [(0x02FF#16, 0x20#8), (0x0200#16, 0x07#8), (0x0300#16, 0x09#8)] Config.default)) =
      [.read 0x060F#16 0x6C#8, .read 0x0610#16 0xFF#8, .read 0x0611#16 0x02#8, .read 0x02FF#16 0x20#8,
        .read 0x0200#16 0x07#8] := by
  decide

/-- 20_memory.md R72: the accesses of JSR and of a read-modify-write, in order. -/
theorem test_bus_writes :
    stepTransactions (running [0x20#8, 0x00#8, 0x80#8]) =
      [.read 0x0600#16 0x20#8, .read 0x0601#16 0x00#8, .read 0x0602#16 0x80#8, .write 0x01FF#16 0x06#8,
        .write 0x01FE#16 0x02#8] ∧
    stepTransactions (given 0x0600#16 [0x06#8, 0x10#8] 0x00#8 0x00#8 0x00#8 0xFF#8 0x00#8 [(0x0010#16, 0x55#8)]
        Config.default) =
      [.read 0x0600#16 0x06#8, .read 0x0601#16 0x10#8, .read 0x0010#16 0x55#8, .write 0x0010#16 0xAA#8] := by
  decide

/-! ### Placing an instruction for the next fetch -/

/-- A word placed in the reset state is the first instruction to run: LDA #$80, JMP $1234, and NOP of a disabled
group. -/
theorem test_fetch_word :
    seen (State.reset.withFetchWord 16 0x80A9) [] =
      some (⟨0x80#8, 0x00#8, 0x00#8, 0xFF#8, 0x0002#16, 0x80#8⟩, []) ∧
    seen (State.reset.withFetchWord 24 0x12344C) [] =
      some (⟨0x00#8, 0x00#8, 0x00#8, 0xFF#8, 0x1234#16, 0x00#8⟩, []) ∧
    seen (State.reset.withFetchWord 8 0xEA) [] =
      some (⟨0x00#8, 0x00#8, 0x00#8, 0xFF#8, 0x0001#16, 0x00#8⟩, []) := by
  decide

/-! ### Witnesses: for each statement with hypotheses, cases that meet them, one for each clause -/

theorem witness_decode_inverts_encode :
    Instr.wellFormed Config.default (.ldaImm 0xFF#8) = true ∧ Instr.wellFormed Config.default .brk = true ∧
    Instr.wellFormed Config.full (.decAbsX 0xFFFF#16) = true := by
  decide

theorem witness_decode_accepts :
    decode Config.default [0xA9#8, 0x01#8, 0x55#8] = .ok (.ldaImm 0x01#8, [0x55#8]) ∧
    decode Config.default [0x00#8] = .ok (.brk, []) ∧
    decode Config.full [0xFE#8, 0xFF#8, 0xFF#8] = .ok (.incAbsX 0xFFFF#16, []) :=
  ⟨rfl, rfl, rfl⟩

/-- An absent opcode at PC with the latch clear: one without a row, one of a disabled group. -/
theorem witness_absent_opcode :
    ((running [0x02#8]).fault = none ∧
      opcodeAbsent (running [0x02#8]).cfg ((running [0x02#8]).read (running [0x02#8]).pc) = true) ∧
    ((running [0xEA#8]).fault = none ∧
      opcodeAbsent (running [0xEA#8]).cfg ((running [0xEA#8]).read (running [0xEA#8]).pc) = true) := by
  decide

/-- The bytes at PC decode, the second time with the operand wrapping past 0xFFFF. -/
theorem witness_step_runs_decoded :
    (∃ s : State, s.fault = none ∧
      decode s.cfg [s.read s.pc, s.read (s.pc + 1), s.read (s.pc + 2)] = .ok (.ldaImm 0x01#8, [0x00#8])) ∧
    (∃ s : State, s.pc = 0xFFFF#16 ∧ s.fault = none ∧
      decode s.cfg [s.read s.pc, s.read (s.pc + 1), s.read (s.pc + 2)] = .ok (.beq 0x05#8, [0x00#8])) :=
  ⟨⟨running [0xA9#8, 0x01#8], rfl, rfl⟩,
    ⟨given 0xFFFF#16 [0xF0#8, 0x05#8] 0x00#8 0x00#8 0x00#8 0xFF#8 0x00#8 [] Config.default, rfl, rfl, rfl⟩⟩

/-- An encoded instruction stands at PC, the second time wrapping past 0xFFFF. -/
theorem witness_step_runs_encoded :
    (∃ (s : State) (i : Instr), s.fault = none ∧ i.wellFormed s.cfg = true ∧
      ∀ k : Nat, k < i.length → (encode i)[k]? = some (s.read (s.pc + BitVec.ofNat 16 k))) ∧
    (∃ (s : State) (i : Instr), s.pc = 0xFFFE#16 ∧ s.fault = none ∧ i.wellFormed s.cfg = true ∧
      ∀ k : Nat, k < i.length → (encode i)[k]? = some (s.read (s.pc + BitVec.ofNat 16 k))) :=
  ⟨⟨running [0xA9#8, 0x01#8], .ldaImm 0x01#8, rfl, rfl, by decide⟩,
    ⟨given 0xFFFE#16 [0x20#8, 0x00#8, 0x80#8] 0x00#8 0x00#8 0x00#8 0xFF#8 0x00#8 [] Config.default,
      .jsr 0x8000#16, rfl, rfl, rfl, by decide⟩⟩

/-- A latch that is clear, and one that is set. -/
theorem witness_latch :
    State.reset.fault = none ∧
    (∃ (s : State) (r : FaultRecord), s.fault = some r) :=
  ⟨rfl, State.reset.latchFault 0x02#8 0x0600#16, ⟨0x02#8, 0x0600#16⟩, rfl⟩

/-- Both readings of the state after reset. -/
theorem witness_reset : ∃ s t u : State, t = State.reset ∧ u = s.resetCore ∧ s ≠ u :=
  ⟨running [0xEA#8], _, _, rfl, rfl, by decide⟩

/-- A state about to store 0x42 at 0x0010. -/
def storing : State := given 0x0600#16 [0x85#8, 0x10#8] 0x42#8 0x00#8 0x00#8 0xFF#8 0x00#8 [] Config.default

/-- A canonical state whose step stores a byte and answers a next state. -/
theorem witness_step_keeps_canonical : ∃ s t : State, s.Inv ∧ step s = .next t ∧ t.mem ≠ s.mem :=
  ⟨storing, (storing.write 0x0010#16 0x42#8).advance 2, rfl, rfl, by decide⟩

/-- A step, an execution and a load that answer a next state. -/
theorem witness_next_state :
    (∃ s t : State, step s = .next t) ∧ (∃ (i : Instr) (s t : State), exec i s = .next t) ∧
    (∃ (s t : State) (bytes : List Byte) (base : Word), s.loadProgram bytes base = .ok t ∧ bytes ≠ []) :=
  ⟨⟨State.reset, next_of_answers (by decide)⟩, ⟨.nop, State.reset, _, rfl⟩,
    ⟨State.reset, _, [0xA9#8, 0x01#8], 0x0600#16, rfl, by decide⟩⟩

/-- The core of the state after reset with an absent opcode at PC, after the step that latches it. -/
def latched : State := (State.reset.pokeMemory 0x0000#16 0x02#8).afterFault (.invalidOpcode 0x02#8 0x0000#16)

/-- The state after reset is reachable, and so is one with the fault latch set. -/
theorem witness_reachable :
    Reachable Config.default State.reset ∧
    ∃ (s : State) (r : FaultRecord), Reachable Config.default s ∧ s.fault = some r := by
  have h0 : Reachable Config.default State.reset := Reachable.initial
  refine ⟨h0, latched, ⟨0x02#8, 0x0000#16⟩, ?_, rfl⟩
  exact Reachable.fault _ _ (Reachable.poke _ _ _ h0) rfl

/-- Sound states: one whose step answers a next state and that a load fits, one whose step raises InvalidOpcode, and
one with the latch set, which answers halted. -/
theorem witness_sound :
    (∃ s t u : State, s.Sound ∧ step s = .next t ∧ s.loadProgram [0xA9#8] 0xFFFF#16 = .ok u) ∧
    (∃ s : State, s.Sound ∧ step s = .fault (.invalidOpcode 0x02#8 0x0000#16)) ∧
    (∃ s : State, s.Sound ∧ s.fault ≠ none ∧ step s = .fault (.halted 0x02#8 0x0000#16)) := by
  refine ⟨⟨State.reset, State.takeInterrupt State.reset 0x0002#16, _, ⟨rfl, by intro r h; cases h⟩, rfl, rfl⟩,
    ⟨State.reset.pokeMemory 0x0000#16 0x02#8, ⟨rfl, by intro r h; cases h⟩, rfl⟩,
    ⟨latched, ⟨rfl, ?_⟩, by decide, rfl⟩⟩
  intro r h
  cases h
  rfl

/-- A store and a load of different modes that meet at one address, for each register: STA abs and LDA (zp),Y, STX zp
and LDX abs, STY abs and LDY zp. -/
theorem witness_store_then_load :
    (∃ s t : State, exec (.staAbs 0x0302#16) s = .next t ∧ Instr.mode (.ldaIndY 0xFF#8) ≠ .immediate ∧
      effectiveAddress (.ldaIndY 0xFF#8) t = effectiveAddress (.staAbs 0x0302#16) s ∧ s.a = 0x80#8) ∧
    (∃ s t : State, exec (.stxZp 0x00#8) s = .next t ∧ Instr.mode (.ldxAbs 0x0000#16) ≠ .immediate ∧
      effectiveAddress (.ldxAbs 0x0000#16) t = effectiveAddress (.stxZp 0x00#8) s ∧ s.x = 0x01#8) ∧
    (∃ s t : State, exec (.styAbs 0x00FF#16) s = .next t ∧ Instr.mode (.ldyZp 0xFF#8) ≠ .immediate ∧
      effectiveAddress (.ldyZp 0xFF#8) t = effectiveAddress (.styAbs 0x00FF#16) s ∧ s.y = 0x00#8) :=
  ⟨⟨given 0x0600#16 [] 0x80#8 0x00#8 0x02#8 0xFF#8 0x00#8 [(0x0000#16, 0x03#8)] Config.full, _, rfl, by decide,
      by decide, rfl⟩,
    ⟨{ State.reset with x := 0x01#8 }, _, rfl, by decide, by decide, rfl⟩,
    ⟨State.reset, _, rfl, by decide, by decide, rfl⟩⟩

theorem witness_memory_is_total : (0x0000#16 : Word) ≠ 0xFFFF#16 ∧ (0x01FF#16 : Word) ≠ 0x0100#16 := by decide

/-- Two canonical states that read the same at every address, of different registers. -/
theorem witness_equal_memories :
    ∃ s t : State, s.Inv ∧ t.Inv ∧ s ≠ t ∧ s.mem ≠ [] ∧ ∀ addr : Word, s.read addr = t.read addr :=
  ⟨running [0xA9#8, 0x01#8], { running [0xA9#8, 0x01#8] with a := 0x55#8 }, rfl, rfl, by decide, by decide,
    fun _ => rfl⟩

/-- Instructions of each operand class, the accumulator form among them. -/
theorem witness_operand_classes :
    operandClass (Instr.mnemonic (.ldaImm 0xFF#8)) = .read ∧ operandClass (Instr.mnemonic (.bitZp 0x10#8)) = .read ∧
    operandClass (Instr.mnemonic (.staAbsX 0xFFFF#16)) = .write ∧ operandClass (Instr.mnemonic .aslAcc) = .modify ∧
    operandClass (Instr.mnemonic (.incZp 0x00#8)) = .modify := by
  decide

theorem witness_loads :
    Instr.mnemonic (.ldaImm 0x00#8) = .lda ∧ Instr.mnemonic (.ldxZpY 0xFF#8) = .ldx ∧
    Instr.mnemonic (.ldyAbs 0xFFFF#16) = .ldy := by
  decide

theorem witness_stores :
    Instr.mnemonic (.staIndY 0xFF#8) = .sta ∧ Instr.mnemonic (.stxAbs 0xFFFF#16) = .stx ∧
    Instr.mnemonic (.styZp 0x00#8) = .sty := by
  decide

theorem witness_logic :
    Instr.mnemonic (.andImm 0x00#8) = .and ∧ Instr.mnemonic (.oraIndX 0xFF#8) = .ora ∧
    Instr.mnemonic (.eorAbs 0xFFFF#16) = .eor ∧ Instr.mnemonic (.bitAbs 0xFFFF#16) = .bit := by
  decide

theorem witness_compares :
    Instr.mnemonic (.cmpImm 0xFF#8) = .cmp ∧ Instr.mnemonic (.cpxZp 0x00#8) = .cpx ∧
    Instr.mnemonic (.cpyAbs 0xFFFF#16) = .cpy := by
  decide

theorem witness_arithmetic :
    Instr.mnemonic (.adcImm 0xFF#8) = .adc ∧ Instr.mnemonic (.sbcAbsY 0xFFFF#16) = .sbc := by
  decide

/-- A pointer whose low byte is 0xFF, and the largest one whose low byte is not. -/
theorem witness_jmp_indirect : (0xFE#8 : Byte) ≠ 0xFF#8 ∧ (0xFF#8 : Byte) = 0xFF#8 := by decide

/-- An address outside the two bytes JSR stores and the three BRK stores, with the stack wrapping. -/
theorem witness_outside_the_frame :
    ∃ (s : State) (addr : Word), s.cfg.brkMode = .interrupt ∧ s.sp = 0x00#8 ∧
      addr ≠ 0x0100#16 + s.sp.setWidth 16 ∧ addr ≠ 0x0100#16 + (s.sp - 1).setWidth 16 ∧
      addr ≠ 0x0100#16 + (s.sp - 2).setWidth 16 :=
  ⟨{ State.reset with sp := 0x00#8 }, 0x00FF#16, by decide⟩

/-- An address that a push at SP = 0x00 does not write, and the two ends of the stack page. -/
theorem witness_stack :
    (∃ (s : State) (addr : Word), addr.toNat ≠ 0x0100 + s.sp.toNat ∧ s.sp = 0x00#8) ∧
    (∃ s : State, s.sp = 0xFF#8) :=
  ⟨⟨{ State.reset with sp := 0x00#8 }, 0x01FF#16, by decide⟩, State.reset, rfl⟩

/-- Both values of PLA_SETS_NZ and both BRK modes. -/
theorem witness_configurations :
    (∃ s : State, s.cfg.plaSetsNZ = false ∧ s.cfg.brkMode = .interrupt) ∧
    (∃ s : State, s.cfg.plaSetsNZ = true) ∧ (∃ s : State, s.cfg.brkMode = .marker) :=
  ⟨⟨State.reset, rfl, rfl⟩, ⟨{ State.reset with cfg := plaFlags }, rfl⟩,
    ⟨{ State.reset with cfg := markerMode }, rfl⟩⟩

theorem witness_shifts :
    Instr.mnemonic .aslAcc = .asl ∧ Instr.mnemonic (.lsrAbs 0xFFFF#16) = .lsr ∧
    Instr.mnemonic (.rolZp 0xFF#8) = .rol ∧ Instr.mnemonic (.rorAbsX 0x0000#16) = .ror := by
  decide

theorem witness_incdec :
    Instr.mnemonic (.incZp 0xFF#8) = .inc ∧ Instr.mnemonic (.decAbsX 0xFFFF#16) = .dec := by
  decide

/-- Executions that write no flag of a clause: NOP, PLA without PLA_SETS_NZ, BRK in Marker mode. -/
theorem witness_flag_frame :
    (∃ s t : State, exec .nop s = .next t ∧ Instr.mnemonic .nop ∉ writersOfN ∧ Instr.mnemonic .nop ∉ writersOfZ ∧
      Instr.mnemonic .nop ∉ writersOfV ∧ Instr.mnemonic .nop ∉ writersOfB ∧ Instr.mnemonic .nop ∉ writersOfD ∧
      Instr.mnemonic .nop ∉ writersOfI ∧ Instr.mnemonic .nop ∉ writersOfC) ∧
    (∃ s t : State, exec .pla s = .next t ∧ Instr.mnemonic .pla ∉ writersOfN ∧ Instr.mnemonic .pla ∉ writersOfZ ∧
      ¬ (Instr.pla = .pla ∧ s.cfg.plaSetsNZ = true)) ∧
    (∃ s t : State, exec .brk s = .next t ∧ Instr.mnemonic .brk ∉ writersOfB ∧ Instr.mnemonic .brk ∉ writersOfI ∧
      ¬ (Instr.brk = .brk ∧ s.cfg.brkMode = .interrupt)) :=
  ⟨⟨State.reset, _, rfl, by decide⟩, ⟨State.reset, State.advance 1 (Sem.pla State.reset), rfl, by decide⟩,
    ⟨{ State.reset with cfg := markerMode }, State.advance 1 { State.reset with cfg := markerMode }, rfl, by decide⟩⟩

/-- Executions that write no register of a clause: NOP, a shift of memory, BRK in Marker mode. -/
theorem witness_register_frame :
    (∃ s t : State, exec .nop s = .next t ∧ Instr.mnemonic .nop ∉ writersOfA ∧ Instr.mnemonic .nop ∉ writersOfX ∧
      Instr.mnemonic .nop ∉ writersOfY ∧ Instr.mnemonic .nop ∉ writersOfSP ∧ Instr.mode .nop ≠ .relative ∧
      Instr.mnemonic .nop ∉ ([.jmp, .jsr, .rts, .rti] : List Mnemonic) ∧ Instr.nop ≠ .brk) ∧
    (∃ s t : State, exec (.aslZp 0x10#8) s = .next t ∧
      ¬ (Instr.mnemonic (.aslZp 0x10#8) ∈ shiftMnemonics ∧ Instr.mode (.aslZp 0x10#8) = .accumulator)) ∧
    (∃ s t : State, exec .brk s = .next t ∧ s.cfg.brkMode = .marker) :=
  ⟨⟨State.reset, _, rfl, by decide⟩, ⟨State.reset, _, rfl, by decide⟩,
    ⟨{ State.reset with cfg := markerMode }, State.advance 1 { State.reset with cfg := markerMode }, rfl, rfl⟩⟩

/-- A store and an address outside its byte, and an instruction that stores nothing. -/
theorem witness_memory_frame :
    (∃ (s t : State) (addr : Word), exec (.staAbs 0xFFFF#16) s = .next t ∧
      addr ∉ storedAddresses (.staAbs 0xFFFF#16) s ∧ storedAddresses (.staAbs 0xFFFF#16) s ≠ []) ∧
    (∃ s t : State, exec (.ldaImm 0x00#8) s = .next t ∧ storedAddresses (.ldaImm 0x00#8) s = []) :=
  ⟨⟨State.reset, _, 0x0000#16, rfl, by decide⟩, ⟨State.reset, _, rfl, rfl⟩⟩

theorem witness_inert_flags : Instr.adcImm 0x09#8 ≠ .php ∧ Instr.adcImm 0x09#8 ≠ .brk ∧ Instr.plp ≠ .php := by decide

/-- A load that ends at the last byte of memory with addresses below it, and one that is a byte too long. -/
theorem witness_loads_fit :
    (0xFFFF#16 : Word).toNat + [0xEA#8].length ≤ 65536 ∧ 0 < [0xEA#8].length ∧
    (0xFFFE#16 : Word).toNat < (0xFFFF#16 : Word).toNat ∧
    (0x0000#16 : Word).toNat + [0xEA#8].length ≤ (0x0001#16 : Word).toNat ∧
    65536 < (0xFFFF#16 : Word).toNat + [0x01#8, 0x02#8].length := by
  decide

/-- tick that completes, and tick that a fault stops. -/
theorem witness_tick :
    (∃ (s t : State) (n : Nat), State.tick (n + 1) s = (t, .ok (n + 1))) ∧
    (∃ (s t : State) (f : Failure), State.tick 3 s = (t, .error f)) :=
  ⟨⟨running [0xA9#8, 0x07#8], _, 0, rfl⟩,
    ⟨running [0xA9#8, 0x07#8, 0x02#8, 0x00#8], _, _, rfl⟩⟩

/-- run_until_break that executes a BRK after one step, one that its budget ends, and one that a fault ends, and what
the other side of each equivalence asks for: the run there, with no 0x00 before. -/
theorem witness_run_until_break :
    (∃ s t u : State, State.runUntilBreak 3 s = (t, .breakEnd) ∧ Host.Core.run core 1 s = .next u ∧
      s.noBreakBefore 1 ∧ u.read u.pc = 0x00#8 ∧ step u = .next t) ∧
    (∃ s t : State, State.runUntilBreak 1 s = (t, .budgetEnd) ∧ Host.Core.run core 1 s = .next t ∧
      s.noBreakBefore 1) ∧
    (∃ (s t u : State) (f : Failure), State.runUntilBreak 3 s = (t, .faultEnd f) ∧ Host.Core.run core 1 s = .next u ∧
      s.noBreakBefore 1 ∧ u.executeOne = (t, some f)) := by
  have first : ∀ s : State, s.read s.pc ≠ 0x00#8 → s.noBreakBefore 1 := by
    intro s h j w hj hw
    obtain rfl : j = 0 := by omega
    cases hw
    exact h
  exact ⟨⟨running [0xAA#8, 0x00#8], _, _, rfl, rfl, first _ (by decide), rfl, rfl⟩,
    ⟨running [0x4C#8, 0x00#8, 0x06#8], _, rfl, rfl, first _ (by decide)⟩,
    ⟨running [0xAA#8, 0x02#8], _, _, _, rfl, rfl, first _ (by decide), rfl⟩⟩

end Sys2Proof.Tests
end

/-! SUPPORT. What every transition of the core and every operation of its host keeps of the state (00_scope.md R7;
60_exceptions.md R300 to R303), and the two outcomes of a step (00_scope.md R15). -/

namespace Sys2Proof.Machine

/-! ### What no instruction changes -/

/-- `t` keeps of `s` what no instruction and no load changes: the configuration, the fault latch, and the canonical
form of memory. -/
structure State.Keeps (s t : State) : Prop where
  cfg : t.cfg = s.cfg
  fault : t.fault = s.fault
  inv : s.Inv → t.Inv

/-- `Keeps` speaks of memory, the latch and the configuration of the later state alone. -/
theorem State.Keeps.congr {s t u : State} (h : s.Keeps t) (hm : u.mem = t.mem) (hf : u.fault = t.fault)
    (hc : u.cfg = t.cfg) : s.Keeps u :=
  ⟨hc.trans h.cfg, hf.trans h.fault, fun hs => (State.inv_congr hm).2 (h.inv hs)⟩

/-- A jump changes PC alone. -/
theorem State.Keeps.jump {s t : State} (h : s.Keeps t) (target : Word) : s.Keeps { t with pc := target } :=
  ⟨h.cfg, h.fault, h.inv⟩

theorem State.Keeps.refl (s : State) : s.Keeps s := ⟨rfl, rfl, id⟩

theorem State.write_keeps (s : State) (addr : Word) (v : Byte) : s.Keeps (s.write addr v) :=
  ⟨rfl, rfl, State.write_inv addr v⟩

theorem State.pushWord_keeps (s : State) (w : Word) : s.Keeps (s.pushWord w) :=
  ⟨s.pushWord_cfg w, s.pushWord_fault w, State.pushWord_inv w⟩

theorem State.takeInterrupt_keeps (s : State) (ret : Word) : s.Keeps (s.takeInterrupt ret) :=
  ⟨s.takeInterrupt_cfg ret, s.takeInterrupt_fault ret, State.takeInterrupt_inv ret⟩

theorem State.returnFromInterrupt_keeps (s : State) : s.Keeps s.returnFromInterrupt :=
  (State.Keeps.refl s).congr s.returnFromInterrupt_mem s.returnFromInterrupt_fault s.returnFromInterrupt_cfg

theorem State.storeBytes_keeps (s : State) (addr : Word) (bytes : List Byte) : s.Keeps (s.storeBytes addr bytes) :=
  ⟨by rw [State.storeBytes_eq], by rw [State.storeBytes_eq], State.storeBytes_inv bytes addr⟩

theorem State.Keeps.sound {s t : State} (h : s.Keeps t) (hs : s.Sound) : t.Sound :=
  ⟨h.inv hs.1, fun r hr => h.cfg ▸ hs.2 r (h.fault ▸ hr)⟩

/-! ### Instructions -/

/-- PLA keeps them whether or not PLA_SETS_NZ has it write the flags. -/
theorem Sem.pla_keeps (s : State) : s.Keeps (Sem.pla s) := by
  unfold Sem.pla
  split <;> exact (State.Keeps.refl s).congr rfl rfl rfl

/-- BRK answers a next state in both modes: a marker that changes nothing, or an interrupt. -/
theorem execBrk_next_keeps (s : State) : ∃ t, execBrk s = .next t ∧ s.Keeps t := by
  unfold execBrk
  cases s.cfg.brkMode with
  | interrupt => exact ⟨_, rfl, s.takeInterrupt_keeps _⟩
  | marker => exact ⟨_, rfl, (State.Keeps.refl s).congr rfl rfl rfl⟩

/-- Every instruction answers a next state, and keeps the configuration, the latch and canonical memory
(60_exceptions.md R304). The stores, the read-modify-write instructions and the one-byte pushes leave the memory of one
write; JSR pushes a word and BRK, in Interrupt mode, a frame; no other instruction writes memory. -/
theorem exec_next_keeps (i : Instr) (s : State) : ∃ t, exec i s = .next t ∧ s.Keeps t := by
  cases i with
  | staZp | staAbs | staIndX | staIndY | staZpX | staAbsY | staAbsX | stxZp | stxAbs | stxZpY | styZp | styAbs | styZpX
  | aslZp | aslAbs | aslZpX | aslAbsX | lsrZp | lsrAbs | lsrZpX | lsrAbsX | rolZp | rolAbs | rolZpX | rolAbsX
  | rorZp | rorAbs | rorZpX | rorAbsX | incZp | incAbs | incZpX | incAbsX | decZp | decAbs | decZpX | decAbsX
  | pha | php => exact ⟨_, rfl, (s.write_keeps _ _).congr rfl rfl rfl⟩
  | jsr target => exact ⟨_, rfl, (s.pushWord_keeps _).jump target⟩
  | rti => exact ⟨_, rfl, s.returnFromInterrupt_keeps⟩
  | brk => exact execBrk_next_keeps s
  | pla => exact ⟨_, rfl, (Sem.pla_keeps s).congr rfl rfl rfl⟩
  | _ => exact ⟨_, rfl, (State.Keeps.refl s).congr rfl rfl rfl⟩

/-! ### The fetch -/

/-- No mode asks for more than the two bytes after the opcode, so the operands are always there. -/
theorem takeOperands_two (op : Byte) (d : Descriptor) (b1 b2 : Byte) :
    ∃ r, takeOperands op d [b1, b2] = .ok r := by
  unfold takeOperands
  cases d.mode <;> exact ⟨_, rfl⟩

/-- Three bytes decode exactly if the first is a present opcode (30_encoding.md R101). -/
theorem decode_three_ok_iff (cfg : Config) (op b1 b2 : Byte) :
    (∃ r, decode cfg [op, b1, b2] = .ok r) ↔ opcodeAbsent cfg op = false := by
  cases hrow : dispatchTable op with
  | none => simp [decode, opcodeAbsent, hrow]
  | some d =>
    by_cases hg : cfg.enables d.group = true
    · simpa [decode, opcodeAbsent, hrow, hg] using takeOperands_two op d b1 b2
    · simp [decode, opcodeAbsent, hrow, hg]

/-- The fetch finds an instruction exactly if the opcode byte at PC is present (40_sequencer_addressing.md R121). -/
theorem State.exists_fetch_eq_some {s : State} :
    (∃ i, s.fetch = some i) ↔ opcodeAbsent s.cfg (s.read s.pc) = false := by
  simp only [State.fetch_eq_some, State.fetchBytes, Prod.exists,
    ← decode_three_ok_iff s.cfg (s.read s.pc) (s.read (s.pc + 1)) (s.read (s.pc + 2))]

theorem State.fetch_eq_none {s : State} : s.fetch = none ↔ opcodeAbsent s.cfg (s.read s.pc) = true := by
  rw [← Bool.not_eq_false, ← State.exists_fetch_eq_some, ← Option.ne_none_iff_exists', not_not]

/-! ### Steps -/

/-- A step with a next state had the latch clear and ran an instruction. -/
theorem exec_of_step_next {s t : State} (h : step s = .next t) : s.fault = none ∧ ∃ i, exec i s = .next t := by
  obtain ⟨r, -, hr⟩ | ⟨i, hf, -, hi⟩ | ⟨-, -, hn⟩ := step_cases s
  · cases hr.symm.trans h
  · exact ⟨hf, i, hi.symm.trans h⟩
  · cases hn.symm.trans h

theorem step_next_keeps {s t : State} (h : step s = .next t) : s.Keeps t := by
  obtain ⟨-, i, hi⟩ := exec_of_step_next h
  obtain ⟨u, hu, hk⟩ := exec_next_keeps i s
  cases hu.symm.trans hi
  exact hk

/-- The two faults of a step: a latch that was set, or an absent opcode at PC. -/
theorem step_fault_cases {s : State} {f : Fault} (h : step s = .fault f) :
    (∃ r, s.fault = some r ∧ f = .halted r.opcode r.pc) ∨
    (s.fault = none ∧ opcodeAbsent s.cfg (s.read s.pc) = true ∧ f = .invalidOpcode (s.read s.pc) s.pc) := by
  obtain ⟨r, hr, hstep⟩ | ⟨i, -, -, hi⟩ | ⟨hf, hn, hstep⟩ := step_cases s
  · cases hstep.symm.trans h
    exact .inl ⟨r, hr, rfl⟩
  · obtain ⟨t, ht, -⟩ := exec_next_keeps i s
    cases ht.symm.trans (hi.symm.trans h)
  · cases hstep.symm.trans h
    exact .inr ⟨hf, State.fetch_eq_none.1 hn, rfl⟩

/-! ### What the core holds after a fault, and the host's operations -/

@[simp] theorem State.afterFault_cfg (s : State) (f : Fault) : (s.afterFault f).cfg = s.cfg := by
  cases f <;> rfl

/-- Latching an opcode that is absent keeps a state sound (60_exceptions.md R300, R302). -/
theorem State.latchFault_sound {s : State} {op : Byte} (pc : Word) (hs : s.Sound) (h : opcodeAbsent s.cfg op = true) :
    (s.latchFault op pc).Sound :=
  ⟨hs.1, fun _ hr => by cases hr; exact h⟩

theorem State.afterFault_sound {s : State} {f : Fault} (hs : s.Sound) (h : step s = .fault f) :
    (s.afterFault f).Sound := by
  obtain ⟨r, -, rfl⟩ | ⟨-, habsent, rfl⟩ := step_fault_cases h
  · exact hs
  · exact State.latchFault_sound s.pc hs habsent

theorem State.loadProgram_keeps {s t : State} {bytes : List Byte} {base : Word} (h : s.loadProgram bytes base = .ok t) :
    s.Keeps t := by
  obtain ⟨-, rfl⟩ := State.loadProgram_eq_ok.1 h
  exact (s.storeBytes_keeps base bytes).jump base

theorem State.resetCore_sound (s : State) : s.resetCore.Sound :=
  ⟨Mem.wf_nil, fun _ hr => by cases hr⟩

/-! ### The statements of 00_scope.md -/

/-- Settles O60: a step with a next state, a load and a raw write keep memory canonical, the latch and the
configuration; a fault latches an absent opcode or nothing new; reset clears memory and the latch. -/
theorem everyTransitionKeepsTheStateSound : Obligations.EveryTransitionKeepsTheStateSound := by
  intro s hs
  refine ⟨fun t h => ?_, fun f h => ?_, fun t bytes base h => ?_, fun addr v => ?_, s.resetCore_sound,
    s.resetCore_cfg⟩
  · exact ⟨(step_next_keeps h).sound hs, (step_next_keeps h).cfg⟩
  · exact ⟨State.afterFault_sound hs h, s.afterFault_cfg f⟩
  · exact ⟨(State.loadProgram_keeps h).sound hs, (State.loadProgram_keeps h).cfg⟩
  · exact ⟨State.write_sound addr v hs, s.write_cfg addr v⟩

/-- Settles O7: with the latch clear the fetch decides, and every instruction it finds completes. -/
theorem stepHasTwoOutcomes : Obligations.StepHasTwoOutcomes := by
  intro s hclear
  obtain ⟨r, hr, -⟩ | ⟨i, -, hi, hstep⟩ | ⟨-, hn, hstep⟩ := step_cases s
  · cases hclear.symm.trans hr
  · obtain ⟨t, ht, -⟩ := exec_next_keeps i s
    exact .inl ⟨State.exists_fetch_eq_some.1 ⟨i, hi⟩, t, hstep.trans ht⟩
  · exact .inr ⟨State.fetch_eq_none.1 hn, hstep⟩

/-- Settles O14: a step and a load keep the configuration; the other operations do not name it, or copy it. -/
theorem configurationNeverChanges : Obligations.ConfigurationNeverChanges := fun s _ =>
  ⟨fun h => (step_next_keeps h).cfg, fun _ _ h => (State.loadProgram_keeps h).cfg, s.write_cfg, s.resetCore_cfg,
    s.afterFault_cfg⟩

end Sys2Proof.Machine

/-! SUPPORT. Which registers and flags an instruction can change: one lemma for each, by its list of writers
(10_state.md R31 to R38, R49), and the default advance of PC (40_sequencer_addressing.md R122, R125). In each proof the
writers are excluded by hypothesis, PLA and BRK go by their frames, and no other instruction sets the field. -/

namespace Sys2Proof.Machine

/-! ### The two instructions whose effect depends on the configuration -/

/-- PLA changes A, SP, N, Z and PC alone (46_stack.md R243). -/
theorem exec_pla_frame {s t : State} (h : exec .pla s = .next t) :
    t = { s with a := t.a, sp := t.sp, flagN := t.flagN, flagZ := t.flagZ, pc := s.pc + 1 } := by
  cases h
  unfold Sem.pla
  split <;> rfl

/-- Without PLA_SETS_NZ, PLA keeps N and Z (46_stack.md R243). -/
theorem exec_pla_keeps_flagN_flagZ {s t : State} (h : exec .pla s = .next t) (hcfg : ¬ s.cfg.plaSetsNZ = true) :
    t.flagN = s.flagN ∧ t.flagZ = s.flagZ := by
  cases h
  unfold Sem.pla
  rw [if_neg hcfg]
  exact ⟨rfl, rfl⟩

/-- BRK takes the interrupt, or in Marker mode only advances PC (47_flags_brk.md R261, R262). -/
theorem exec_brk_next {s t : State} (h : exec .brk s = .next t) :
    s.cfg.brkMode = .interrupt ∧ t = s.takeInterrupt (s.pc + 2) ∨ s.cfg.brkMode = .marker ∧ t = s.advance 1 := by
  have hexec : execBrk s = .next t := h
  unfold execBrk at hexec
  split at hexec <;> cases hexec
  · next hmode => exact .inl ⟨hmode, rfl⟩
  · next hmode => exact .inr ⟨hmode, rfl⟩

/-- In either mode BRK changes B, I, SP, PC and memory alone. -/
theorem exec_brk_frame {s t : State} (h : exec .brk s = .next t) :
    t = { s with flagB := t.flagB, flagI := t.flagI, sp := t.sp, pc := t.pc, mem := t.mem } := by
  obtain ⟨-, rfl⟩ | ⟨-, rfl⟩ := exec_brk_next h
  · simp only [State.takeInterrupt, State.pushWord, State.push, State.write]
  · rfl

/-- Where BRK does not take the interrupt, it only advances PC. -/
theorem exec_brk_next_of_not_interrupt {s t : State} (h : exec .brk s = .next t)
    (hbrk : ¬ (Instr.brk = .brk ∧ s.cfg.brkMode = .interrupt)) : t = s.advance 1 := by
  obtain ⟨hmode, -⟩ | ⟨-, ht⟩ := exec_brk_next h
  · exact absurd ⟨rfl, hmode⟩ hbrk
  · exact ht

section
variable {i : Instr} {s t : State} (h : exec i s = .next t)
include h

/-! ### The flags (10_state.md R36, R38) -/

/-- N and Z have the same writers, which are most instructions: here it is the others that are listed. -/
theorem exec_keeps_flagN_flagZ (hw : i.mnemonic ∉ writersOfN) (hpla : ¬ (i = .pla ∧ s.cfg.plaSetsNZ = true)) :
    t.flagN = s.flagN ∧ t.flagZ = s.flagZ := by
  cases i with
  | staZp | staAbs | staIndX | staIndY | staZpX | staAbsY | staAbsX | stxZp | stxAbs | stxZpY | styZp | styAbs | styZpX
  | txs | bpl | bmi | bvc | bvs | bcc | bcs | bne | beq | jmpAbs | jmpInd | jsr | rts | pha | php
  | clc | sec | cli | sei | clv | cld | sed | nop => cases h; exact ⟨rfl, rfl⟩
  | pla => exact exec_pla_keeps_flagN_flagZ h fun hcfg => hpla ⟨rfl, hcfg⟩
  | brk => rw [exec_brk_frame h]; exact ⟨rfl, rfl⟩
  | _ => exact absurd (of_decide_eq_true rfl) hw

theorem exec_keeps_flagV (hw : i.mnemonic ∉ writersOfV) : t.flagV = s.flagV := by
  cases i with
  | adcImm | adcZp | adcAbs | adcIndX | adcIndY | adcZpX | adcAbsY | adcAbsX
  | sbcImm | sbcZp | sbcAbs | sbcIndX | sbcIndY | sbcZpX | sbcAbsY | sbcAbsX
  | bitZp | bitAbs | clv | plp | rti => exact absurd (of_decide_eq_true rfl) hw
  | pla => rw [exec_pla_frame h]
  | brk => rw [exec_brk_frame h]
  | _ => cases h; rfl

theorem exec_keeps_flagB (hw : i.mnemonic ∉ writersOfB) (hbrk : ¬ (i = .brk ∧ s.cfg.brkMode = .interrupt)) :
    t.flagB = s.flagB := by
  cases i with
  | plp | rti => exact absurd (of_decide_eq_true rfl) hw
  | pla => rw [exec_pla_frame h]
  | brk => obtain rfl := exec_brk_next_of_not_interrupt h hbrk; rfl
  | _ => cases h; rfl

theorem exec_keeps_flagD (hw : i.mnemonic ∉ writersOfD) : t.flagD = s.flagD := by
  cases i with
  | cld | sed | plp | rti => exact absurd (of_decide_eq_true rfl) hw
  | pla => rw [exec_pla_frame h]
  | brk => rw [exec_brk_frame h]
  | _ => cases h; rfl

theorem exec_keeps_flagI (hw : i.mnemonic ∉ writersOfI) (hbrk : ¬ (i = .brk ∧ s.cfg.brkMode = .interrupt)) :
    t.flagI = s.flagI := by
  cases i with
  | cli | sei | plp | rti => exact absurd (of_decide_eq_true rfl) hw
  | pla => rw [exec_pla_frame h]
  | brk => obtain rfl := exec_brk_next_of_not_interrupt h hbrk; rfl
  | _ => cases h; rfl

theorem exec_keeps_flagC (hw : i.mnemonic ∉ writersOfC) : t.flagC = s.flagC := by
  cases i with
  | cmpImm | cmpZp | cmpAbs | cmpIndX | cmpIndY | cmpZpX | cmpAbsY | cmpAbsX
  | cpxImm | cpxZp | cpxAbs | cpyImm | cpyZp | cpyAbs
  | adcImm | adcZp | adcAbs | adcIndX | adcIndY | adcZpX | adcAbsY | adcAbsX
  | sbcImm | sbcZp | sbcAbs | sbcIndX | sbcIndY | sbcZpX | sbcAbsY | sbcAbsX
  | clc | sec | plp | rti
  | aslAcc | aslZp | aslAbs | aslZpX | aslAbsX | lsrAcc | lsrZp | lsrAbs | lsrZpX | lsrAbsX
  | rolAcc | rolZp | rolAbs | rolZpX | rolAbsX | rorAcc | rorZp | rorAbs | rorZpX | rorAbsX =>
    exact absurd (of_decide_eq_true rfl) hw
  | pla => rw [exec_pla_frame h]
  | brk => rw [exec_brk_frame h]
  | _ => cases h; rfl

/-! ### The registers (10_state.md R31 to R35, R49) -/

theorem exec_keeps_a (hw : i.mnemonic ∉ writersOfA)
    (hshift : ¬ (i.mnemonic ∈ shiftMnemonics ∧ i.mode = .accumulator)) : t.a = s.a := by
  cases i with
  | ldaImm | ldaZp | ldaAbs | ldaIndX | ldaIndY | ldaZpX | ldaAbsY | ldaAbsX
  | andImm | andZp | andAbs | andIndX | andIndY | andZpX | andAbsY | andAbsX
  | oraImm | oraZp | oraAbs | oraIndX | oraIndY | oraZpX | oraAbsY | oraAbsX
  | eorImm | eorZp | eorAbs | eorIndX | eorIndY | eorZpX | eorAbsY | eorAbsX
  | adcImm | adcZp | adcAbs | adcIndX | adcIndY | adcZpX | adcAbsY | adcAbsX
  | sbcImm | sbcZp | sbcAbs | sbcIndX | sbcIndY | sbcZpX | sbcAbsY | sbcAbsX
  | txa | tya | pla => exact absurd (of_decide_eq_true rfl) hw
  | aslAcc | lsrAcc | rolAcc | rorAcc => exact absurd (by decide) hshift
  | brk => rw [exec_brk_frame h]
  | _ => cases h; rfl

theorem exec_keeps_x (hw : i.mnemonic ∉ writersOfX) : t.x = s.x := by
  cases i with
  | ldxImm | ldxZp | ldxAbs | ldxZpY | ldxAbsY | tax | tsx | inx | dex => exact absurd (of_decide_eq_true rfl) hw
  | pla => rw [exec_pla_frame h]
  | brk => rw [exec_brk_frame h]
  | _ => cases h; rfl

theorem exec_keeps_y (hw : i.mnemonic ∉ writersOfY) : t.y = s.y := by
  cases i with
  | ldyImm | ldyZp | ldyAbs | ldyZpX | ldyAbsX | tay | iny | dey => exact absurd (of_decide_eq_true rfl) hw
  | pla => rw [exec_pla_frame h]
  | brk => rw [exec_brk_frame h]
  | _ => cases h; rfl

theorem exec_keeps_sp (hw : i.mnemonic ∉ writersOfSP) : t.sp = s.sp := by
  cases i with
  | txs | pha | pla | php | plp | jsr | rts | rti | brk => exact absurd (of_decide_eq_true rfl) hw
  | _ => cases h; rfl

/-- An instruction that is no control transfer leaves PC after itself (40_sequencer_addressing.md R122, R125). -/
theorem exec_advances_pc (hbranch : i.mode ≠ .relative)
    (hjump : i.mnemonic ∉ ([.jmp, .jsr, .rts, .rti] : List Mnemonic))
    (hbrk : ¬ (i = .brk ∧ s.cfg.brkMode = .interrupt)) : t.pc = s.pc + BitVec.ofNat 16 i.length := by
  cases i with
  | bpl | bmi | bvc | bvs | bcc | bcs | bne | beq => exact absurd rfl hbranch
  | jmpAbs | jmpInd | jsr | rts | rti => exact absurd (of_decide_eq_true rfl) hjump
  | pla => rw [exec_pla_frame h]; rfl
  | brk => obtain rfl := exec_brk_next_of_not_interrupt h hbrk; rfl
  | _ => cases h; rfl

end

/-! ### The statements of 10_state.md -/

/-- Settles O51: each flag's own lemma, N and Z sharing theirs. -/
theorem flagsChangeOnlyByTheirWriters : Obligations.FlagsChangeOnlyByTheirWriters := fun _ _ _ h =>
  ⟨fun hw hpla => (exec_keeps_flagN_flagZ h hw hpla).1, fun hw hpla => (exec_keeps_flagN_flagZ h hw hpla).2,
    exec_keeps_flagV h, exec_keeps_flagB h, exec_keeps_flagD h, exec_keeps_flagI h, exec_keeps_flagC h⟩

/-- Settles O52: each register's own lemma; BRK in Marker mode only advances PC, so SP stays. -/
theorem registersChangeOnlyByTheirWriters : Obligations.RegistersChangeOnlyByTheirWriters := by
  intro i s t h
  refine ⟨exec_keeps_a h, exec_keeps_x h, exec_keeps_y h, exec_keeps_sp h, ?_, exec_advances_pc h⟩
  rintro rfl hmarker
  obtain rfl := exec_brk_next_of_not_interrupt h (by simp [hmarker])
  rfl

end Sys2Proof.Machine

/-! SUPPORT. Memory as bytes and as data (20_memory.md R60): what a canonical memory reads at the addresses it does not
list, and that its bytes determine it; and the word JSR leaves on the stack (20_memory.md R68; 45_control.md R222). -/

namespace Sys2Proof.Machine

/-! ### Canonical memory and what it reads -/

theorem Mem.wfFrom_cons {lo k : Nat} {v : Byte} {m : Mem} :
    Mem.wfFrom lo ((k, v) :: m) = true ↔ lo ≤ k ∧ k < 65536 ∧ v ≠ 0x00#8 ∧ Mem.wfFrom (k + 1) m = true := by
  simp only [Mem.wfFrom, Bool.and_eq_true, decide_eq_true_eq, and_assoc]

@[simp] theorem Mem.read_cons_same (k : Nat) (v : Byte) (m : Mem) : Mem.read ((k, v) :: m) k = v :=
  if_pos rfl

theorem Mem.read_cons_ne {k j : Nat} (v : Byte) (m : Mem) (h : k ≠ j) : Mem.read ((k, v) :: m) j = Mem.read m j :=
  if_neg h

/-- Below its first address a canonical memory reads 0x00. -/
theorem Mem.read_eq_zero_of_lt {m : Mem} : ∀ {lo k : Nat}, Mem.wfFrom lo m = true → k < lo →
    Mem.read m k = 0x00#8 := by
  induction m with
  | nil => intro _ _ _ _; rfl
  | cons c m ih =>
    obtain ⟨k', v⟩ := c
    intro lo k hm hk
    obtain ⟨hlo, -, -, htail⟩ := Mem.wfFrom_cons.1 hm
    rw [Mem.read_cons_ne v m (by omega)]
    exact ih htail (by omega)

/-- A canonical memory begins no later than at an address where it reads a non-zero byte. -/
theorem Mem.head_le_of_read_ne_zero {lo k j : Nat} {v : Byte} {m : Mem} (hm : Mem.wfFrom lo ((k, v) :: m) = true)
    (hj : Mem.read ((k, v) :: m) j ≠ 0x00#8) : k ≤ j := by
  obtain ⟨-, -, -, htail⟩ := Mem.wfFrom_cons.1 hm
  by_contra hlt
  exact hj ((Mem.read_cons_ne v m (by omega)).trans (Mem.read_eq_zero_of_lt htail (by omega)))

/-- A canonical memory that reads 0x00 at every address lists nothing. -/
theorem Mem.eq_nil_of_read_eq_zero {lo : Nat} {m : Mem} (hm : Mem.wfFrom lo m = true)
    (h : ∀ k < 65536, Mem.read m k = 0x00#8) : m = [] := by
  cases m with
  | nil => rfl
  | cons c m =>
    obtain ⟨k, v⟩ := c
    obtain ⟨-, hk, hv, -⟩ := Mem.wfFrom_cons.1 hm
    exact absurd ((Mem.read_cons_same k v m).symm.trans (h k hk)) hv

/-- The bytes of a canonical memory determine it: two that read the same begin with the same cell, and what follows it
reads the same again, 0x00 at that cell's address. -/
theorem Mem.eq_of_read_eq {m : Mem} : ∀ {lo : Nat} {m' : Mem}, Mem.wfFrom lo m = true → Mem.wfFrom lo m' = true →
    (∀ k < 65536, Mem.read m k = Mem.read m' k) → m = m' := by
  induction m with
  | nil => intro lo m' _ hm' h; exact (Mem.eq_nil_of_read_eq_zero hm' fun k hk => (h k hk).symm).symm
  | cons c m ih =>
    intro lo m' hm hm' h
    cases m' with
    | nil => exact Mem.eq_nil_of_read_eq_zero hm h
    | cons c' m' =>
      obtain ⟨k, v⟩ := c
      obtain ⟨k', v'⟩ := c'
      obtain ⟨-, hk, hv, htail⟩ := Mem.wfFrom_cons.1 hm
      obtain ⟨-, hk', hv', htail'⟩ := Mem.wfFrom_cons.1 hm'
      have hle : k ≤ k' := Mem.head_le_of_read_ne_zero hm (by rwa [h k' hk', Mem.read_cons_same])
      have hge : k' ≤ k := Mem.head_le_of_read_ne_zero hm' (by rwa [← h k hk, Mem.read_cons_same])
      obtain rfl := le_antisymm hle hge
      obtain rfl : v = v' := by simpa using h k hk
      have hrest : ∀ j < 65536, Mem.read m j = Mem.read m' j := fun j hj => by
        by_cases hkj : k = j
        · subst hkj
          rw [Mem.read_eq_zero_of_lt htail (Nat.lt_succ_self k), Mem.read_eq_zero_of_lt htail' (Nat.lt_succ_self k)]
        · simpa [Mem.read_cons_ne, hkj] using h j hj
      rw [ih htail htail' hrest]

/-! ### The word JSR pushes -/

theorem hiByte_eq_ofNat (w : Word) : hiByte w = BitVec.ofNat 8 (w.toNat / 256) := by
  rw [← hiByte_toNat, BitVec.ofNat_toNat, BitVec.setWidth_eq]

theorem loByte_eq_ofNat (w : Word) : loByte w = BitVec.ofNat 8 (w.toNat % 256) := by
  rw [← loByte_toNat, BitVec.ofNat_toNat, BitVec.setWidth_eq]

/-- The stack address as 10_state.md R34 spells it. -/
theorem stackAddr_spelled (sp : Byte) : 0x0100#16 + sp.setWidth 16 = stackAddr sp := rfl

/-- JSR changes PC, SP and memory alone. -/
theorem Sem.jsr_frame (target : Word) (s : State) :
    Sem.jsr target s = { s with pc := target, sp := s.sp - 1 - 1, mem := (Sem.jsr target s).mem } := rfl

/-- What JSR leaves at every address: the two bytes of the return address, all else as before. -/
theorem Sem.read_jsr (target : Word) (s : State) (k : Word) :
    (Sem.jsr target s).read k = if k = stackAddr (s.sp - 1) then loByte (s.pc + 2)
      else if k = stackAddr s.sp then hiByte (s.pc + 2) else s.read k :=
  s.read_pushWord (s.pc + 2) k

theorem stackAddr_ne_stackAddr_sub_one (sp : Byte) : stackAddr sp ≠ stackAddr (sp - 1) := fun h => by
  have := stackAddr_inj.1 h
  bv_omega

/-! ### The statements of 20_memory.md -/

/-- Settles O12: a step with a next state ran one instruction, and each keeps memory canonical. -/
theorem stepKeepsMemoryCanonical : Obligations.StepKeepsMemoryCanonical := fun _ _ hs h => (step_next_keeps h).inv hs

/-- Settles O18: the bytes of a canonical memory determine it. -/
theorem equalMemoriesAreEqualData : Obligations.EqualMemoriesAreEqualData := fun _ _ hs ht h =>
  Mem.eq_of_read_eq hs ht fun _ hk => h (BitVec.ofNatLT _ hk)

/-- Settles O35: JSR pushes the word `pc + 2`, whose bytes are read at the two stack addresses. -/
theorem jsrPushesTheReturnAddress : Obligations.JsrPushesTheReturnAddress := by
  intro s target
  have hret : (s.pc + 2).toNat = (s.pc.toNat + 2) % 65536 := BitVec.toNat_add s.pc 2
  have hsp : s.sp - 2 = s.sp - 1 - 1 := by bv_omega
  simp only [stackAddr_spelled]
  refine ⟨Sem.jsr target s, rfl, hsp ▸ Sem.jsr_frame target s, ?_, ?_, fun addr hhigh hlow => ?_⟩
  · rw [Sem.read_jsr, if_neg (stackAddr_ne_stackAddr_sub_one s.sp), if_pos rfl, hiByte_eq_ofNat, hret]
  · rw [Sem.read_jsr, if_pos rfl, loByte_eq_ofNat, hret, Nat.mod_mod_of_dvd _ (by decide)]
  · rw [Sem.read_jsr, if_neg hlow, if_neg hhigh]

/-- Settles O17: the laws of a byte access, the same at 0xFFFF as elsewhere. -/
theorem memoryIsTotal : Obligations.MemoryIsTotal := fun s a _ v =>
  ⟨s.read_write_same a v, fun hb => s.read_write_ne v hb, ⟨_, rfl⟩, s.read_write_same 0xFFFF#16 v⟩

end Sys2Proof.Machine

/-! SUPPORT. The decoder and the encoder are inverse (30_encoding.md R90 to R104): what each row of the dispatch table
assembles, what the decoder accepts, and which opcode bytes are absent. -/

namespace Sys2Proof

/-! ### The rows of the dispatch table -/

/-- What a row of the dispatch table assembles is encoded by the row's opcode byte and as many of the two operand bytes
as its mode has (R91, R92). -/
theorem encode_assemble {op : Byte} {d : Descriptor} (h : dispatchTable op = some d) (b1 b2 : Byte) :
    encode (d.assemble b1 b2) = op :: [b1, b2].take d.mode.operandBytes := by
  have hop : op = BitVec.ofNat 8 op.toNat := by simp
  unfold dispatchTable at h
  generalize op.toNat = n at h hop
  subst hop
  split at h <;> cases h
  all_goals simp only [encode, Instr.operandBytes, loByte_wordOf, hiByte_wordOf]
  all_goals rfl

/-- What a row assembles has the row's opcode, and so the row's mode and group, since that opcode selects one row. -/
theorem assemble_fields {op : Byte} {d : Descriptor} (h : dispatchTable op = some d) (b1 b2 : Byte) :
    (d.assemble b1 b2).opcode = op ∧ (d.assemble b1 b2).mode = d.mode ∧ (d.assemble b1 b2).group = d.group := by
  have hop : (d.assemble b1 b2).opcode = op := (List.cons.inj (encode_assemble h b1 b2)).1
  obtain ⟨f, hrow, -⟩ := Laws.tableRow (d.assemble b1 b2)
  rw [hop, h, Option.some.injEq] at hrow
  exact ⟨hop, (congrArg Descriptor.mode hrow).symm, (congrArg Descriptor.group hrow).symm⟩

/-- Operand bytes, as many as the row's mode has, come back in the encoding of what the row assembles from them. -/
theorem encode_assemble_getD {op : Byte} {d : Descriptor} {ops : List Byte} (h : dispatchTable op = some d)
    (hlen : ops.length = d.mode.operandBytes) :
    encode (d.assemble (ops.getD 0 0x00#8) (ops.getD 1 0x00#8)) = op :: ops := by
  rw [encode_assemble h, ← hlen]
  match ops with
  | [] | [_] | [_, _] => rfl
  | _ :: _ :: _ :: _ => cases hm : d.mode <;> simp [hm, Mode.operandBytes] at hlen

theorem Mode.operandBytes_le_two (m : Mode) : m.operandBytes ≤ 2 := by
  cases m <;> decide

/-- An instruction has as many operand bytes as its mode (R91). -/
theorem Instr.operandBytes_length (i : Instr) : i.operandBytes.length = i.mode.operandBytes := by
  obtain ⟨-, -, -, hbytes⟩ := Laws.tableRow i
  rw [hbytes, List.length_take]
  exact Nat.min_eq_left i.mode.operandBytes_le_two

/-! ### What the decoder accepts -/

/-- The operands taken are as many bytes as the row's mode has, an operand byte it does not have being passed as 0. -/
theorem takeOperands_eq_ok {op : Byte} {d : Descriptor} {bytes rest : List Byte} {i : Instr} :
    takeOperands op d bytes = .ok (i, rest) ↔ ∃ ops : List Byte, ops.length = d.mode.operandBytes ∧
      d.assemble (ops.getD 0 0x00#8) (ops.getD 1 0x00#8) = i ∧ bytes = ops ++ rest := by
  constructor
  · intro h
    unfold takeOperands at h
    split at h
    case h_1 hn => cases h; exact ⟨[], hn.symm, rfl, rfl⟩
    case h_2 b1 r hn => cases h; exact ⟨[b1], hn.symm, rfl, rfl⟩
    case h_3 b1 b2 r hn => cases h; exact ⟨[b1, b2], hn.symm, rfl, rfl⟩
    case h_4 => cases h
  · rintro ⟨ops, hlen, rfl, rfl⟩
    have hle := hlen ▸ d.mode.operandBytes_le_two
    unfold takeOperands
    rw [← hlen]
    match ops with
    | [] | [_] | [_, _] => rfl

/-- The decoder accepts the encodings of well-formed instructions, each as that instruction, and nothing else
(R94, R101, R103). -/
theorem decode_eq_ok {cfg : Config} {bytes rest : List Byte} {i : Instr} :
    decode cfg bytes = .ok (i, rest) ↔ i.wellFormed cfg = true ∧ bytes = encode i ++ rest := by
  rw [wellFormed_eq_enables]
  constructor
  · intro h
    match bytes with
    | op :: tail =>
      rcases hrow : dispatchTable op with _ | d
      · simp [decode, hrow] at h
      · by_cases hg : cfg.enables d.group = true
        · simp only [decode, hrow, hg, if_true] at h
          obtain ⟨ops, hlen, rfl, rfl⟩ := takeOperands_eq_ok.1 h
          rw [encode_assemble_getD hrow hlen, (assemble_fields hrow _ _).2.2]
          exact ⟨hg, rfl⟩
        · simp [decode, hrow, hg] at h
  · rintro ⟨hg, rfl⟩
    obtain ⟨f, hrow, hf, -⟩ := Laws.tableRow i
    simp only [encode, List.cons_append, decode, hrow, hg, if_true]
    exact takeOperands_eq_ok.2 ⟨i.operandBytes, i.operandBytes_length, hf, rfl⟩

theorem encode_length (i : Instr) : (encode i).length = 1 + i.mode.operandBytes := by
  rw [encode, List.length_cons, i.operandBytes_length, Nat.add_comm]

/-! ### Absent opcodes -/

/-- The present opcodes are those of the well-formed instructions (R101). -/
theorem opcodeAbsent_eq_false {cfg : Config} {op : Byte} :
    opcodeAbsent cfg op = false ↔ ∃ i : Instr, i.wellFormed cfg = true ∧ i.opcode = op := by
  simp only [wellFormed_eq_enables]
  constructor
  · intro h
    rcases hrow : dispatchTable op with _ | d
    · simp [opcodeAbsent, hrow] at h
    · obtain ⟨hop, -, hgroup⟩ := assemble_fields hrow 0x00#8 0x00#8
      exact ⟨_, by simpa [opcodeAbsent, hrow, hgroup] using h, hop⟩
  · rintro ⟨i, hg, rfl⟩
    obtain ⟨f, hrow, -⟩ := Laws.tableRow i
    simp [opcodeAbsent, hrow, hg]

/-- An opcode is absent in every configuration exactly if it is absent in the full one, which has every group. -/
theorem opcodeAbsent_all_iff_full {op : Byte} :
    (∀ cfg : Config, opcodeAbsent cfg op = true) ↔ opcodeAbsent Config.full op = true := by
  refine ⟨fun h => h _, fun h cfg => ?_⟩
  rcases hrow : dispatchTable op with _ | d
  · simp [opcodeAbsent, hrow]
  · simp [opcodeAbsent, hrow] at h

/-- A count over a range is the sum of the counts over two parts of it, each small enough to compute. -/
theorem length_filter_range_add (p : Nat → Bool) (m n : Nat) : ((List.range (m + n)).filter p).length =
    ((List.range m).filter p).length + ((List.range n).filter fun k => p (m + k)).length := by
  rw [List.range_add, List.filter_append, List.length_append, List.filter_map, List.length_map]
  rfl

/-! ### The statements of 30_encoding.md -/

/-- Settles O1: an encoded well-formed instruction is what the decoder accepts. -/
theorem decodeInvertsEncode : Obligations.DecodeInvertsEncode := fun _ _ _ hwf =>
  decode_eq_ok.2 ⟨hwf, rfl⟩

/-- Settles O2: the decoder accepts encodings only, and an encoding has the length of its instruction. -/
theorem decodeAcceptsOnlyEncodings : Obligations.DecodeAcceptsOnlyEncodings := by
  intro cfg bytes rest i h
  obtain ⟨hwf, rfl⟩ := decode_eq_ok.1 h
  exact ⟨hwf, rfl, by rw [List.length_append, encode_length]⟩

/-- Settles O3: an absent opcode is one that is not present, the list and the counts are read off the table of the full
and the default configuration, and a step with the latch clear has two outcomes. -/
theorem absentOpcodesAreTheListedOnes : Obligations.AbsentOpcodesAreTheListedOnes := by
  refine ⟨fun cfg op => ?_, fun op => ?_, ?_, ?_, fun s hclear habsent => ?_⟩
  · rw [← opcodeAbsent_eq_false, Bool.not_eq_false]
  · -- compared as numbers, which is the cheaper computation
    rw [opcodeAbsent_all_iff_full, ← List.mem_map_of_injective BitVec.toNat_injective]
    revert op
    decide
  · rw [length_filter_range_add _ 128 128, length_filter_range_add _ 64 64, length_filter_range_add _ 64 64]
    decide
  · rw [length_filter_range_add _ 128 128]
    decide
  · obtain ⟨hpresent, -⟩ | ⟨-, hstep⟩ := Machine.stepHasTwoOutcomes s hclear
    · cases habsent.symm.trans hpresent
    · exact hstep

/-- Settles O4: each word is closed, so the decoder computes it. -/
theorem sampleWordsDecode : Obligations.SampleWordsDecode := by
  unfold Obligations.SampleWordsDecode
  decide

end Sys2Proof

/-! SUPPORT. The fetch, the operands and the bus (40_sequencer_addressing.md R120 to R146): what a step runs, where an
instruction's operand comes from, what it leaves in memory, and that its transactions account for that. -/

namespace Sys2Proof

/-! ### Encodings, and the words that hold them -/

theorem Instr.length_le_three (i : Instr) : i.length ≤ 3 :=
  Nat.add_le_add_left i.mode.operandBytes_le_two 1

/-- The word of an instruction's opcode and operand bytes is cut into bytes that begin with its encoding. -/
theorem encode_prefix_tableBytes (i : Instr) : encode i <+:
    tableBytes (8 * i.length) (i.opcode.toNat + i.byte1.toNat * 256 + i.byte2.toNat * 65536) := by
  obtain ⟨-, -, -, hbytes⟩ := Laws.tableRow i
  have h0 := i.opcode.isLt
  have h1 := i.byte1.isLt
  have h2 := i.byte2.isLt
  rw [encode, hbytes, Instr.length]
  have hle := i.mode.operandBytes_le_two
  generalize i.mode.operandBytes = n at hle
  have hbyte : ∀ {b : Byte} {v : Nat}, v % 256 = b.toNat → b = BitVec.ofNat 8 v := fun {_ v} h =>
    BitVec.eq_of_toNat_eq (h.symm.trans (BitVec.toNat_ofNat v 8).symm)
  match n with
  | 0 => simpa [tableBytes] using hbyte (by omega)
  | 1 => simpa [tableBytes] using ⟨hbyte (by omega), hbyte (by omega)⟩
  | 2 => simpa [tableBytes] using ⟨hbyte (by omega), hbyte (by omega), hbyte (by omega)⟩

/-- A word that begins with an encoding decodes to that instruction, since every group is enabled. -/
theorem decodeTableWord_eq_some {nbits w : Nat} {i : Instr} (h : encode i <+: tableBytes nbits w) :
    decodeTableWord nbits w = some i := by
  obtain ⟨rest, hrest⟩ := h
  have hwf : i.wellFormed Config.full = true := by rw [wellFormed_eq_enables, enables_full]
  rw [decodeTableWord, decode_eq_ok.2 ⟨hwf, hrest.symm⟩]

/-- Enabling a group sets group parameters alone. -/
theorem enabling_keeps (cfg : Config) (g : Group) : (cfg.enabling g).brkMode = cfg.brkMode ∧
    (cfg.enabling g).plaSetsNZ = cfg.plaSetsNZ ∧ (cfg.enabling g).loadBase = cfg.loadBase := by
  cases g <;> exact ⟨rfl, rfl, rfl⟩

/-! ### Words of two bytes -/

theorem wordOf_eq_ofNat (h l : Byte) : wordOf h l = BitVec.ofNat 16 (h.toNat * 256 + l.toNat) := by
  rw [← wordOf_toNat, BitVec.ofNat_toNat, BitVec.setWidth_eq]

/-- Below 0xFF the low byte steps without a carry into the high byte. -/
theorem wordOf_add_one {h l : Byte} (hl : l ≠ 0xFF#8) : wordOf h (l + 1) = wordOf h l + 1 := by
  have hlow : (l + 1).toNat = l.toNat + 1 := by bv_omega
  rw [wordOf_eq_ofNat, wordOf_eq_ofNat, hlow, ← Nat.add_assoc, BitVec.ofNat_add]
  rfl

end Sys2Proof

namespace Sys2Proof.Machine

/-! ### What a step runs (R120, R123) -/

/-- With the latch clear a step is exec of what it fetches. -/
theorem step_eq_exec {s : State} {i : Instr} (hclear : s.fault = none) (hi : s.fetch = some i) : step s = exec i s := by
  rw [step, hclear, hi]

/-- The instruction whose encoding begins the bytes at PC is the one a step runs. -/
theorem step_eq_exec_of_prefix {s : State} {i : Instr} (hclear : s.fault = none) (hwf : i.wellFormed s.cfg = true)
    (hbytes : encode i <+: s.fetchBytes) : step s = exec i s := by
  obtain ⟨rest, hrest⟩ := hbytes
  exact step_eq_exec hclear (State.fetch_eq_some.2 ⟨rest, decode_eq_ok.2 ⟨hwf, hrest.symm⟩⟩)

/-- A step with a next state had the latch clear and ran the instruction it fetched. -/
theorem fetch_of_step_next {s t : State} (h : step s = .next t) :
    s.fault = none ∧ ∃ i, s.fetch = some i ∧ exec i s = .next t := by
  obtain ⟨r, -, hr⟩ | ⟨i, hclear, hi, hstep⟩ | ⟨-, -, hn⟩ := step_cases s
  · cases hr.symm.trans h
  · exact ⟨hclear, i, hi, hstep.symm.trans h⟩
  · cases hn.symm.trans h

theorem State.fetchBytes_getElem? (s : State) {k : Nat} (hk : k < 3) :
    s.fetchBytes[k]? = some (s.read (s.pc + BitVec.ofNat 16 k)) := by
  match k with
  | 0 => simp [State.fetchBytes]
  | 1 | 2 => rfl

/-! ### An instruction placed at PC (log entry 6) -/

/-- Three bytes stored at PC are the bytes the fetch then reads, also where PC + 1 or PC + 2 wraps. -/
theorem State.fetchBytes_storeBytes (s : State) (b0 b1 b2 : Byte) :
    (s.storeBytes s.pc [b0, b1, b2]).fetchBytes = [b0, b1, b2] := by
  have hpc : (s.storeBytes s.pc [b0, b1, b2]).pc = s.pc := rfl
  have h01 : s.pc ≠ s.pc + 1 := by bv_omega
  have h02 : s.pc ≠ s.pc + 2 := by bv_omega
  have h12 : s.pc + 1 ≠ s.pc + 2 := by bv_omega
  have hadd : s.pc + 1 + 1 = s.pc + 2 := by bv_omega
  rw [State.fetchBytes, hpc]
  simp only [State.storeBytes, State.read_write, hadd, h01, h02, h12, if_true, if_false]

/-- Placing a word clears the latch, enables the group of the instruction it decodes to, and changes memory besides. -/
theorem State.placeWord_eq (s : State) {nbits w : Nat} {i : Instr} (hi : decodeTableWord nbits w = some i) :
    s.placeWord nbits w =
      { s with mem := (s.placeWord nbits w).mem, fault := none, cfg := s.cfg.enabling i.group } := by
  rw [State.placeWord, hi, State.storeBytes_eq]

/-- The word placed is what the next fetch reads. -/
theorem State.fetchBytes_placeWord (s : State) (nbits w : Nat) :
    (s.placeWord nbits w).fetchBytes = tableBytes nbits w :=
  s.fetchBytes_storeBytes _ _ _

/-! ### The pointer of JMP (ind) (R137) -/

/-- JMP (ind) reads the high byte of its target in the page of its pointer. -/
theorem pointerHighAddr_wordOf (h l : Byte) : pointerHighAddr (wordOf h l) = wordOf h (l + 1) := by
  rw [pointerHighAddr, hiByte_wordOf, loByte_wordOf]

/-! ### Where an operand comes from (R126, R145, R146) -/

/-- The modes that yield an effective address (R130). -/
def addressModes : List Mode :=
  [.zeroPage, .absolute, .zeroPageX, .zeroPageY, .absoluteX, .absoluteY, .indexedIndirectX, .indirectIndexedY]

/-- The modes in which the instructions of a class occur in the opcode map (R95, R126). -/
def modesOfClass : OperandClass → List Mode
  | .read => .immediate :: addressModes
  | .write => addressModes
  | .modify => .accumulator :: addressModes
  | .noMemory => [.implied, .relative, .absolute, .indirect]

theorem mode_mem_modesOfClass (i : Instr) : i.mode ∈ modesOfClass (operandClass i.mnemonic) := by
  cases i <;> exact of_decide_eq_true rfl

/-- An instruction with a memory operand never has JMP's mode. -/
theorem mode_ne_indirect {i : Instr} (hc : operandClass i.mnemonic ≠ .noMemory) : i.mode ≠ .indirect := by
  intro hm
  have hmem := mode_mem_modesOfClass i
  rw [hm] at hmem
  cases hclass : operandClass i.mnemonic with
  | noMemory => exact hc hclass
  | read | write | modify => rw [hclass] at hmem; exact absurd hmem (by decide)

theorem resolve_address {m : Mode} (hm : m ∈ addressModes) (b1 b2 : Byte) (s : State) :
    ∃ ea, resolve m b1 b2 s = .address ea := by
  cases m with
  | implied | accumulator | immediate | relative | indirect => exact absurd hm (by decide)
  | _ => exact ⟨_, rfl⟩

section
variable {i : Instr} (s : State)

/-- A read-class instruction has an immediate operand or an effective address. -/
theorem operandOf_of_read (hc : operandClass i.mnemonic = .read) :
    i.mode = .immediate ∨ i.mode ≠ .immediate ∧ ∃ ea, operandOf i s = .address ea := by
  have hm := mode_mem_modesOfClass i
  rw [hc] at hm
  obtain himm | haddr := List.mem_cons.1 hm
  · exact .inl himm
  · exact .inr ⟨fun h => absurd (h ▸ haddr) (by decide), resolve_address haddr _ _ s⟩

theorem operandOf_of_write (hc : operandClass i.mnemonic = .write) : ∃ ea, operandOf i s = .address ea := by
  have hm := mode_mem_modesOfClass i
  rw [hc] at hm
  exact resolve_address hm _ _ s

/-- A read-modify-write instruction works on A or at an effective address. -/
theorem operandOf_of_modify (hc : operandClass i.mnemonic = .modify) :
    i.mode = .accumulator ∨ ∃ ea, operandOf i s = .address ea := by
  have hm := mode_mem_modesOfClass i
  rw [hc] at hm
  obtain hacc | haddr := List.mem_cons.1 hm
  · exact .inl hacc
  · exact .inr (resolve_address haddr _ _ s)

end

/-! ### What an instruction leaves in memory -/

/-- The register a store writes (41_load_store.md R153 to R155). -/
def storedRegister (m : Mnemonic) (s : State) : Byte :=
  match m with
  | .stx => s.x
  | .sty => s.y
  | _ => s.a

section
variable {i : Instr} {s : State} {ea w : Word} (hea : operandOf i s = .address ea)
include hea

theorem eq_eaAbsolute (hm : i.mode = .absolute) (hw : wordOf i.byte2 i.byte1 = w) : ea = eaAbsolute w :=
  Operand.address.inj (hea.symm.trans (operandOf_absolute hm hw s))

theorem eq_eaAbsoluteX (hm : i.mode = .absoluteX) (hw : wordOf i.byte2 i.byte1 = w) : ea = eaAbsoluteX w s :=
  Operand.address.inj (hea.symm.trans (operandOf_absoluteX hm hw s))

theorem eq_eaAbsoluteY (hm : i.mode = .absoluteY) (hw : wordOf i.byte2 i.byte1 = w) : ea = eaAbsoluteY w s :=
  Operand.address.inj (hea.symm.trans (operandOf_absoluteY hm hw s))

end

section
variable {i : Instr} {s t : State} {ea : Word} (h : exec i s = .next t)
include h

/-- An instruction that stores nowhere leaves memory as it was. -/
theorem exec_keeps_mem (hnone : storedAddresses i s = []) : t.mem = s.mem := by
  cases i with
  | staZp | staAbs | staIndX | staIndY | staZpX | staAbsY | staAbsX | stxZp | stxAbs | stxZpY | styZp | styAbs | styZpX
  | aslZp | aslAbs | aslZpX | aslAbsX | lsrZp | lsrAbs | lsrZpX | lsrAbsX | rolZp | rolAbs | rolZpX | rolAbsX
  | rorZp | rorAbs | rorZpX | rorAbsX | incZp | incAbs | incZpX | incAbsX | decZp | decAbs | decZpX | decAbsX
  | pha | php | jsr => cases hnone
  | pla => rw [exec_pla_frame h]
  | brk =>
    obtain ⟨hmode, -⟩ | ⟨-, rfl⟩ := exec_brk_next h
    · simp [storedAddresses, Instr.mnemonic, hmode] at hnone
    · rfl
  | _ => cases h; rfl

/-- A store writes its register at its effective address (R146). -/
theorem exec_write_mem (hc : operandClass i.mnemonic = .write) (hea : operandOf i s = .address ea) :
    t.mem = Mem.write s.mem ea.toNat (storedRegister i.mnemonic s) := by
  cases i with
  | staZp | staIndX | staIndY | staZpX | stxZp | stxZpY | styZp | styZpX =>
    cases hea; cases h; rfl
  | staAbs | stxAbs | styAbs =>
    obtain rfl := eq_eaAbsolute hea rfl (wordOf_hiByte_loByte _)
    cases h; rfl
  | staAbsX =>
    obtain rfl := eq_eaAbsoluteX hea rfl (wordOf_hiByte_loByte _)
    cases h; rfl
  | staAbsY =>
    obtain rfl := eq_eaAbsoluteY hea rfl (wordOf_hiByte_loByte _)
    cases h; rfl
  | _ => cases hc

/-- A read-modify-write instruction writes the byte at its effective address back modified (48_optional_groups.md
R274). -/
theorem exec_modify_mem (hc : operandClass i.mnemonic = .modify) (hea : operandOf i s = .address ea) :
    t.mem = Mem.write s.mem ea.toNat (modifiedValue i.mnemonic (s.read ea) s.flagC) := by
  cases i with
  | aslZp | aslZpX | lsrZp | lsrZpX | rolZp | rolZpX | rorZp | rorZpX | incZp | incZpX | decZp | decZpX =>
    cases hea; cases h; rfl
  | aslAbs | lsrAbs | rolAbs | rorAbs | incAbs | decAbs =>
    obtain rfl := eq_eaAbsolute hea rfl (wordOf_hiByte_loByte _)
    cases h; rfl
  | aslAbsX | lsrAbsX | rolAbsX | rorAbsX | incAbsX | decAbsX =>
    obtain rfl := eq_eaAbsoluteX hea rfl (wordOf_hiByte_loByte _)
    cases h; rfl
  | aslAcc | lsrAcc | rolAcc | rorAcc => cases hea
  | _ => cases hc

end

/-- Taking the software interrupt writes the return address and the status byte with B = 1 to the stack. -/
theorem State.takeInterrupt_mem (s : State) (ret : Word) : (s.takeInterrupt ret).mem =
    Mem.write (Mem.write (Mem.write s.mem (stackAddr s.sp).toNat (hiByte ret)) (stackAddr (s.sp - 1)).toNat
      (loByte ret)) (stackAddr (s.sp - 2)).toNat ({ s with flagB := true } : State).statusByte := by
  rw [show s.sp - 2 = s.sp - 1 - 1 by bv_omega]
  rfl

/-- It leaves everything above the stack page as it was, the vector with it. -/
theorem State.takeInterrupt_read_above_stack (s : State) (ret : Word) {k : Word} (hk : 0x0200 ≤ k.toNat) :
    (s.takeInterrupt ret).read k = s.read k := by
  have hne (sp : Byte) : k ≠ stackAddr sp := fun e => by
    have hlt := sp.isLt
    rw [e, stackAddr_toNat] at hk
    omega
  rw [State.read_takeInterrupt, if_neg (hne _), if_neg (hne _), if_neg (hne _)]

/-! ### The transactions of an instruction (R124, R144) -/

@[simp] theorem replay_nil (m : Mem) : replay m [] = some m := rfl

@[simp] theorem replay_busRead (s : State) (addr : Word) (ts : List Transaction) :
    replay s.mem (s.busRead addr :: ts) = replay s.mem ts := if_pos rfl

@[simp] theorem replay_write (m : Mem) (addr : Word) (v : Byte) (ts : List Transaction) :
    replay m (.write addr v :: ts) = replay (Mem.write m addr.toNat v) ts := rfl

/-- Memory serves reads of what it holds and stays as it is. -/
theorem replay_append_of_reads {s : State} {rs : List Transaction} (hrs : ∀ r ∈ rs, ∃ addr, r = s.busRead addr)
    (ts : List Transaction) : replay s.mem (rs ++ ts) = replay s.mem ts := by
  induction rs with
  | nil => rfl
  | cons r rs ih =>
    obtain ⟨addr, rfl⟩ := hrs r List.mem_cons_self
    rw [List.cons_append, replay_busRead, ih fun r hr => hrs r (List.mem_cons_of_mem _ hr)]

theorem fetchReads_are_reads (i : Instr) (s : State) : ∀ r ∈ fetchReads i s, ∃ addr, r = s.busRead addr := by
  intro r hr
  obtain ⟨k, -, rfl⟩ := List.mem_map.1 hr
  exact ⟨_, rfl⟩

theorem pointerReads_are_reads (i : Instr) (s : State) : ∀ r ∈ pointerReads i s, ∃ addr, r = s.busRead addr := by
  unfold pointerReads
  split <;> simp

section
variable {i : Instr} {s : State} {ea : Word}

theorem dataAccesses_of_read (hc : operandClass i.mnemonic = .read) (hea : operandOf i s = .address ea) :
    dataAccesses i s = [s.busRead ea] := by
  rw [dataAccesses, hea, hc]

theorem dataAccesses_of_write (hc : operandClass i.mnemonic = .write) (hea : operandOf i s = .address ea) :
    dataAccesses i s = [.write ea (storedRegister i.mnemonic s)] := by
  rw [dataAccesses, hea, hc]
  rfl

theorem dataAccesses_of_modify (hc : operandClass i.mnemonic = .modify) (hea : operandOf i s = .address ea) :
    dataAccesses i s = [s.busRead ea, .write ea (modifiedValue i.mnemonic (s.read ea) s.flagC)] := by
  rw [dataAccesses, hea, hc]

theorem dataAccesses_of_immediate (hm : i.mode = .immediate) : dataAccesses i s = [] := by
  rw [dataAccesses, operandOf_immediate hm]

theorem dataAccesses_of_accumulator (hm : i.mode = .accumulator) : dataAccesses i s = [] := by
  rw [dataAccesses, operandOf_accumulator hm]

theorem dataAccesses_of_noMemory (hc : operandClass i.mnemonic = .noMemory) : dataAccesses i s = [] := by
  rw [dataAccesses, hc]
  cases operandOf i s <;> rfl

/-- An instruction with a memory operand does not use the stack. -/
theorem stackAccesses_of_memory (hc : operandClass i.mnemonic ≠ .noMemory) : stackAccesses i s = [] := by
  unfold stackAccesses
  generalize i.mnemonic = m at hc
  cases m with
  | pha | php | pla | plp | jsr | rts | rti | brk => exact absurd rfl hc
  | _ => rfl

theorem storedAddresses_of_read (hc : operandClass i.mnemonic = .read) : storedAddresses i s = [] := by
  unfold storedAddresses
  generalize i.mnemonic = m at hc
  cases m with
  | lda | ldx | ldy | and | ora | eor | bit | cmp | cpx | cpy | adc | sbc => rfl
  | _ => cases hc

theorem storedAddresses_of_accumulator (hm : i.mode = .accumulator) : storedAddresses i s = [] := by
  cases i with
  | aslAcc | lsrAcc | rolAcc | rorAcc => rfl
  | _ => cases hm

end

/-- BRK pushes three bytes and reads the vector, which is not in the stack page; in Marker mode it does neither. -/
theorem replay_brk {s t : State} (h : exec .brk s = .next t) : replay s.mem (stackAccesses .brk s) = some t.mem := by
  obtain ⟨hmode, rfl⟩ | ⟨hmode, rfl⟩ := exec_brk_next h
  · have hread {k : Word} (hk : 0x0200 ≤ k.toNat) : s.busRead k = (s.takeInterrupt (s.pc + 2)).busRead k := by
      rw [State.busRead, State.busRead, s.takeInterrupt_read_above_stack _ hk]
    simp only [stackAccesses, Instr.mnemonic, hmode, pushWrite, replay_write, ← State.takeInterrupt_mem]
    rw [hread (by decide), hread (by decide), replay_busRead, replay_busRead, replay_nil]
  · simp only [stackAccesses, Instr.mnemonic, hmode, replay_nil, State.advance_mem]

section
variable {i : Instr} {s t : State} (h : exec i s = .next t)
include h

/-- Memory serves the data accesses of an instruction with a memory operand and is then as the instruction leaves it. -/
theorem replay_dataAccesses (hc : operandClass i.mnemonic ≠ .noMemory) :
    replay s.mem (dataAccesses i s) = some t.mem := by
  cases hclass : operandClass i.mnemonic with
  | read =>
    rw [exec_keeps_mem h (storedAddresses_of_read hclass)]
    obtain himm | ⟨-, ea, hea⟩ := operandOf_of_read s hclass
    · rw [dataAccesses_of_immediate himm, replay_nil]
    · rw [dataAccesses_of_read hclass hea, replay_busRead, replay_nil]
  | write =>
    obtain ⟨ea, hea⟩ := operandOf_of_write s hclass
    rw [exec_write_mem h hclass hea, dataAccesses_of_write hclass hea, replay_write, replay_nil]
  | modify =>
    obtain hacc | ⟨ea, hea⟩ := operandOf_of_modify s hclass
    · rw [exec_keeps_mem h (storedAddresses_of_accumulator hacc), dataAccesses_of_accumulator hacc, replay_nil]
    · rw [exec_modify_mem h hclass hea, dataAccesses_of_modify hclass hea, replay_busRead, replay_write, replay_nil]
  | noMemory => exact absurd hclass hc

/-- Memory serves the stack accesses of an instruction without a memory operand likewise. -/
theorem replay_stackAccesses (hc : operandClass i.mnemonic = .noMemory) :
    replay s.mem (stackAccesses i s) = some t.mem := by
  cases i with
  | pha | php | jsr => cases h; rfl
  | pla | plp | rts | rti =>
    rw [exec_keeps_mem h rfl]
    simp only [stackAccesses, Instr.mnemonic, replay_busRead, replay_nil]
  | brk => exact replay_brk h
  | tax | tay | tsx | txa | txs | tya | bpl | bmi | bvc | bvs | bcc | bcs | bne | beq | jmpAbs | jmpInd
  | clc | sec | cli | sei | clv | cld | sed | inx | iny | dex | dey | nop => rw [exec_keeps_mem h rfl]; rfl
  | _ => cases hc

/-- Memory serves all transactions of an instruction: the fetch and the pointers are reads, and an instruction has data
accesses or stack accesses, not both. -/
theorem replay_transactions : replay s.mem (transactions i s) = some t.mem := by
  rw [transactions, List.append_assoc, List.append_assoc, replay_append_of_reads (fetchReads_are_reads i s),
    replay_append_of_reads (pointerReads_are_reads i s)]
  by_cases hc : operandClass i.mnemonic = .noMemory
  · rw [dataAccesses_of_noMemory hc, List.nil_append, replay_stackAccesses h hc]
  · rw [stackAccesses_of_memory hc, List.append_nil, replay_dataAccesses h hc]

end

/-- The first transaction is the opcode read at PC. -/
theorem transactions_head? (i : Instr) (s : State) : (transactions i s).head? = some (s.busRead s.pc) := by
  simp [transactions, fetchReads, Instr.length, Nat.add_comm 1, List.range_succ_eq_map]

/-- Fetch and pointers take at most 4 reads: two pointer bytes follow a single operand byte, but for JMP (ind). -/
theorem fetch_pointer_length_le {i : Instr} (s : State) (hm : i.mode ≠ .indirect) :
    (fetchReads i s ++ pointerReads i s).length ≤ 4 := by
  rw [fetchReads, List.length_append, List.length_map, List.length_range, Instr.length, pointerReads]
  cases hmode : i.mode with
  | indirect => exact absurd hmode hm
  | _ => simp [Mode.operandBytes]

theorem dataAccesses_length_le (i : Instr) (s : State) : (dataAccesses i s).length ≤ 2 := by
  unfold dataAccesses
  split <;> simp

/-- At most 4 reads of fetch and pointers and 2 data accesses; or, without a memory operand, a count that BRK makes the
largest, with its opcode, three pushes and the vector. -/
theorem transactions_length_le (i : Instr) (s : State) : (transactions i s).length ≤ 6 := by
  by_cases hc : operandClass i.mnemonic = .noMemory
  · cases i with
    | brk =>
      simp only [transactions, stackAccesses, Instr.mnemonic]
      cases s.cfg.brkMode <;> exact of_decide_eq_true rfl
    | pha | php | pla | plp | jsr | rts | rti
    | tax | tay | tsx | txa | txs | tya | bpl | bmi | bvc | bvs | bcc | bcs | bne | beq | jmpAbs | jmpInd
    | clc | sec | cli | sei | clv | cld | sed | inx | iny | dex | dey | nop => exact of_decide_eq_true rfl
    | _ => cases hc
  · rw [transactions, stackAccesses_of_memory hc, List.append_nil, List.length_append]
    exact Nat.add_le_add (fetch_pointer_length_le s (mode_ne_indirect hc)) (dataAccesses_length_le i s)

/-- With the latch clear a step's transactions are those of the instruction fetched. -/
theorem stepTransactions_of_fetch {s : State} {i : Instr} (hclear : s.fault = none) (hi : s.fetch = some i) :
    stepTransactions s = transactions i s := by
  rw [stepTransactions, hclear, hi]

/-! ### The statements of 40_sequencer_addressing.md -/

/-- Settles O5: the fetch decodes those three bytes. -/
theorem stepRunsTheDecodedInstruction : Obligations.StepRunsTheDecodedInstruction := fun _ _ rest hclear hdecode =>
  step_eq_exec hclear (State.fetch_eq_some.2 ⟨rest, hdecode⟩)

/-- Settles O6: bytes that agree one by one with the encoding begin with it. -/
theorem stepRunsTheEncodedInstruction : Obligations.StepRunsTheEncodedInstruction := by
  intro s i hclear hwf hbytes
  refine step_eq_exec_of_prefix hclear hwf (List.prefix_iff_getElem?.2 fun k hk => ?_)
  have hlen : k < i.length := hk.trans_eq (encode_length i)
  rw [s.fetchBytes_getElem? (hlen.trans_le i.length_le_three), ← hbytes k hlen, List.getElem?_eq_getElem hk]

/-- Settles O10: the lemma that goes through the constructors also says what each of them keeps. -/
theorem everyInstructionCompletes : Obligations.EveryInstructionCompletes := fun i s =>
  (exec_next_keeps i s).imp fun _ h => h.1

/-- Settles O59: the word's bytes begin with the encoding, and the fetch reads them with the group enabled. -/
theorem placedWordRunsNext : Obligations.PlacedWordRunsNext := by
  intro s i
  have hprefix := encode_prefix_tableBytes i
  have hplaced := s.placeWord_eq (decodeTableWord_eq_some hprefix)
  have hcfg := congrArg State.cfg hplaced
  refine ⟨_, s.placeWord _ _, rfl, rfl, step_eq_exec_of_prefix (congrArg State.fault hplaced) ?_ ?_, ?_, ?_⟩
  · rw [hcfg, wellFormed_eq_enables, enables_enabling]
  · rwa [State.fetchBytes_placeWord]
  · rw [hcfg]; exact hplaced
  · rw [hcfg]; exact enabling_keeps s.cfg i.group

/-- Settles O19: each mode's row of the resolver, with the number its address is. -/
theorem plainModesYieldTheirOperand : Obligations.PlainModesYieldTheirOperand := fun _ b1 b2 =>
  ⟨rfl, ⟨_, rfl, eaZeroPage_toNat b1, (eaZeroPage_toNat b1).trans_lt b1.isLt, rfl⟩,
    ⟨_, rfl, wordOf_toNat b2 b1, rfl⟩, rfl, rfl⟩

/-- Settles O34: the low byte of the pointer is stepped within its page, which is the next address but at 0xFF. -/
theorem jmpIndirectKeepsThePageWrap : Obligations.JmpIndirectKeepsThePageWrap := by
  intro s b1 b2
  have hhigh : hiByte (indirectTarget (wordOf b2 b1) s) = s.read (wordOf b2 (b1 + 1)) := by
    rw [indirectTarget, hiByte_wordOf, pointerHighAddr_wordOf]
  refine ⟨Sem.jmp (indirectTarget (wordOf b2 b1) s) s, rfl, rfl, ?_, ?_, fun hne => ?_, fun heq => ?_⟩
  · rw [← wordOf_eq_ofNat]; exact loByte_wordOf _ _
  · rw [← show (b1 + 1).toNat = (b1.toNat + 1) % 256 from BitVec.toNat_add b1 1, ← wordOf_eq_ofNat]; exact hhigh
  · rw [← wordOf_add_one hne]; exact hhigh
  · subst heq; exact hhigh

/-- Settles O21: the encoding is the instruction's row of the opcode map, and each class has the operands above. -/
theorem operandsComeFromTheOperandBytes : Obligations.OperandsComeFromTheOperandBytes := by
  intro i s
  obtain ⟨-, -, -, hbytes⟩ := Laws.tableRow i
  refine ⟨congrArg _ hbytes, fun hc => ?_, fun hc => ?_, fun hc => ?_⟩
  · obtain himm | ⟨hne, ea, hea⟩ := operandOf_of_read s hc
    · exact .inl ⟨himm, operandValue_of_value (operandOf_immediate himm s)⟩
    · exact .inr ⟨hne, ea, hea, operandValue_of_address hea⟩
  · obtain ⟨ea, hea⟩ := operandOf_of_write s hc
    exact ⟨ea, hea, effectiveAddress_of_address hea⟩
  · obtain hacc | ⟨ea, hea⟩ := operandOf_of_modify s hc
    · exact .inl ⟨hacc, by rw [operandValue, operandOf_accumulator hacc]⟩
    · exact .inr ⟨ea, hea, effectiveAddress_of_address hea, operandValue_of_address hea⟩

/-- Settles O55: a step with a next state ran the instruction it fetched, whose transactions memory serves. -/
theorem busTransactionsAccountForTheStep : Obligations.BusTransactionsAccountForTheStep := by
  intro s t h
  obtain ⟨hclear, i, hi, hexec⟩ := fetch_of_step_next h
  rw [stepTransactions_of_fetch hclear hi]
  exact ⟨replay_transactions hexec, transactions_head? i s, transactions_length_le i s⟩

end Sys2Proof.Machine

/-! SUPPORT. Loads, stores and what they leave of memory (41_load_store.md R150 to R156; 20_memory.md R79): which
opcodes a mnemonic has, what every instruction that reads or writes one operand does, and the addresses outside which
memory stays. -/

namespace Sys2Proof

/-- The opcodes and modes of a mnemonic are those of its rows of the dispatch table (30_encoding.md R94, R95). -/
theorem mnemonic_eq_iff_of_rows {m : Mnemonic} {rows : List (Byte × Mode)}
    (hrows : ∀ op : Byte, ∀ d ∈ dispatchTable op, d.mnemonic = m ↔ (op, d.mode) ∈ rows) (i : Instr) :
    i.mnemonic = m ↔ (i.opcode, i.mode) ∈ rows := by
  obtain ⟨f, hrow, -⟩ := Laws.tableRow i
  exact hrows _ _ hrow

end Sys2Proof

namespace Sys2Proof.Machine

/-! ### What an instruction with a read or written operand does (R126, R145, R146) -/

/-- What an instruction that reads an operand does with its value; PC it leaves to the default advance. -/
def readEffect : Mnemonic → Byte → State → State
  | .lda => Sem.lda
  | .ldx => Sem.ldx
  | .ldy => Sem.ldy
  | .and => Sem.and
  | .ora => Sem.ora
  | .eor => Sem.eor
  | .bit => Sem.bit
  | .cmp => Sem.cmp
  | .cpx => Sem.cpx
  | .cpy => Sem.cpy
  | .adc => Sem.adc
  | .sbc => Sem.sbc
  | _ => fun _ s => s

section
variable {i : Instr} {s : State} {ea : Word}

theorem exec_of_immediate (hm : i.mode = .immediate) :
    exec i s = finish i.length (readEffect i.mnemonic i.byte1 s) := by
  cases i with
  | ldaImm | ldxImm | ldyImm | andImm | oraImm | eorImm | cmpImm | cpxImm | cpyImm | adcImm | sbcImm => rfl
  | _ => cases hm

theorem exec_of_read_of_address (hc : operandClass i.mnemonic = .read) (hea : operandOf i s = .address ea) :
    exec i s = finish i.length (readEffect i.mnemonic (s.read ea) s) := by
  cases i with
  | ldaImm | ldxImm | ldyImm | andImm | oraImm | eorImm | cmpImm | cpxImm | cpyImm | adcImm | sbcImm => cases hea
  | ldaZp | ldxZp | ldyZp | andZp | oraZp | eorZp | bitZp | cmpZp | cpxZp | cpyZp | adcZp | sbcZp
  | ldaZpX | ldyZpX | andZpX | oraZpX | eorZpX | cmpZpX | adcZpX | sbcZpX | ldxZpY
  | ldaIndX | andIndX | oraIndX | eorIndX | cmpIndX | adcIndX | sbcIndX
  | ldaIndY | andIndY | oraIndY | eorIndY | cmpIndY | adcIndY | sbcIndY => cases hea; rfl
  | ldaAbs | ldxAbs | ldyAbs | andAbs | oraAbs | eorAbs | bitAbs | cmpAbs | cpxAbs | cpyAbs | adcAbs | sbcAbs =>
    obtain rfl := eq_eaAbsolute hea rfl (wordOf_hiByte_loByte _)
    rfl
  | ldaAbsX | ldyAbsX | andAbsX | oraAbsX | eorAbsX | cmpAbsX | adcAbsX | sbcAbsX =>
    obtain rfl := eq_eaAbsoluteX hea rfl (wordOf_hiByte_loByte _)
    rfl
  | ldaAbsY | ldxAbsY | andAbsY | oraAbsY | eorAbsY | cmpAbsY | adcAbsY | sbcAbsY =>
    obtain rfl := eq_eaAbsoluteY hea rfl (wordOf_hiByte_loByte _)
    rfl
  | _ => cases hc

/-- An instruction that reads an operand uses its value, immediate or from memory, and advances past itself. -/
theorem exec_of_read (hc : operandClass i.mnemonic = .read) :
    exec i s = finish i.length (readEffect i.mnemonic (operandValue i s) s) := by
  obtain himm | ⟨-, ea, hea⟩ := operandOf_of_read s hc
  · rw [exec_of_immediate himm, operandValue_of_value (operandOf_immediate himm s)]
  · rw [exec_of_read_of_address hc hea, operandValue_of_address hea]

theorem exec_of_write_of_address (hc : operandClass i.mnemonic = .write) (hea : operandOf i s = .address ea) :
    exec i s = finish i.length (s.write ea (storedRegister i.mnemonic s)) := by
  cases i with
  | staZp | staIndX | staIndY | staZpX | stxZp | stxZpY | styZp | styZpX => cases hea; rfl
  | staAbs | stxAbs | styAbs =>
    obtain rfl := eq_eaAbsolute hea rfl (wordOf_hiByte_loByte _)
    rfl
  | staAbsX =>
    obtain rfl := eq_eaAbsoluteX hea rfl (wordOf_hiByte_loByte _)
    rfl
  | staAbsY =>
    obtain rfl := eq_eaAbsoluteY hea rfl (wordOf_hiByte_loByte _)
    rfl
  | _ => cases hc

/-- A store writes its register at its effective address, once, and advances past itself. -/
theorem exec_of_write (hc : operandClass i.mnemonic = .write) :
    exec i s = finish i.length (s.write (effectiveAddress i s) (storedRegister i.mnemonic s)) := by
  obtain ⟨ea, hea⟩ := operandOf_of_write s hc
  rw [exec_of_write_of_address hc hea, effectiveAddress_of_address hea]

end

/-! ### A store, then a load (R156) -/

/-- In the state a store leaves, an operand read at the store's address is the register stored. -/
theorem operandValue_after_store {i j : Instr} {s t : State} (hi : operandClass i.mnemonic = .write)
    (hj : operandClass j.mnemonic = .read) (hmode : j.mode ≠ .immediate) (ht : exec i s = .next t)
    (hmeet : effectiveAddress j t = effectiveAddress i s) : operandValue j t = storedRegister i.mnemonic s := by
  obtain himm | ⟨-, ea, hea⟩ := operandOf_of_read t hj
  · exact absurd himm hmode
  · obtain rfl : ea = effectiveAddress i s := (effectiveAddress_of_address hea).symm.trans hmeet
    rw [exec_of_write hi] at ht
    rw [operandValue_of_address hea, finish_eq_next.1 ht, State.advance_read, State.read_write_same]

/-- The load `ld` reads into the register `reg` that the store `st` writes out, and sets Z and N by it. -/
structure Reloads (st ld : Mnemonic) (reg : State → Byte) : Prop where
  store : operandClass st = .write
  load : operandClass ld = .read
  stored : ∀ s, storedRegister st s = reg s
  loaded : ∀ (v : Byte) (s : State) (n : Nat), reg ((readEffect ld v s).advance n) = v ∧
    (readEffect ld v s).flagZ = decide (v = 0x00#8) ∧ (readEffect ld v s).flagN = v.getLsbD 7

theorem reloads_sta_lda : Reloads .sta .lda State.a := ⟨rfl, rfl, fun _ => rfl, fun _ _ _ => ⟨rfl, rfl, rfl⟩⟩

theorem reloads_stx_ldx : Reloads .stx .ldx State.x := ⟨rfl, rfl, fun _ => rfl, fun _ _ _ => ⟨rfl, rfl, rfl⟩⟩

theorem reloads_sty_ldy : Reloads .sty .ldy State.y := ⟨rfl, rfl, fun _ => rfl, fun _ _ _ => ⟨rfl, rfl, rfl⟩⟩

section
variable {st ld : Mnemonic} {reg : State → Byte} (h : Reloads st ld reg) {i j : Instr} (s : State)
  (hmode : j.mode ≠ .immediate) (hi : i.mnemonic = st) (hj : j.mnemonic = ld)
include h hmode hi hj

/-- Where the load meets the store, it gives the register back, with its Z and N. -/
theorem Reloads.roundTrip : ∃ t : State, exec i s = .next t ∧
    (effectiveAddress j t = effectiveAddress i s → ∃ u : State, exec j t = .next u ∧
      reg u = reg s ∧ u.flagZ = decide (reg s = 0x00#8) ∧ u.flagN = (reg s).getLsbD 7) := by
  subst hi hj
  refine ⟨_, exec_of_write h.store, fun hmeet => ⟨_, exec_of_read h.load, ?_⟩⟩
  rw [operandValue_after_store h.store h.load hmode (exec_of_write h.store) hmeet, h.stored]
  exact h.loaded (reg s) _ _

/-- A load that meets the store whatever state it leaves, as the absolute forms at one address do. -/
theorem Reloads.roundTrip_of_meets (hmeets : ∀ t, effectiveAddress j t = effectiveAddress i s) :
    ∃ t u : State, exec i s = .next t ∧ exec j t = .next u ∧
      reg u = reg s ∧ u.flagZ = decide (reg s = 0x00#8) ∧ u.flagN = (reg s).getLsbD 7 := by
  obtain ⟨t, ht, hload⟩ := h.roundTrip s hmode hi hj
  obtain ⟨u, hu⟩ := hload (hmeets t)
  exact ⟨t, u, ht, hu⟩

end

/-! ### The addresses stored to -/

section
variable {i : Instr} {s : State} {ea : Word}

theorem storedAddresses_of_write (hc : operandClass i.mnemonic = .write) (hea : operandOf i s = .address ea) :
    storedAddresses i s = [ea] := by
  rw [storedAddresses, effectiveAddress_of_address hea]
  generalize i.mnemonic = m at hc
  cases m with
  | sta | stx | sty => rfl
  | _ => cases hc

theorem storedAddresses_of_modify (hc : operandClass i.mnemonic = .modify) (hea : operandOf i s = .address ea) :
    storedAddresses i s = [ea] := by
  have hmode : i.mode ≠ .accumulator := fun hacc => by cases hea.symm.trans (operandOf_accumulator hacc s)
  rw [storedAddresses, effectiveAddress_of_address hea]
  generalize i.mnemonic = m at hc
  cases m with
  | asl | lsr | rol | ror | inc | dec => exact if_neg hmode
  | _ => cases hc

end

/-- Memory of one write reads as before at every other address. -/
theorem State.read_of_mem_write {s t : State} {ea addr : Word} {v : Byte} (hm : t.mem = Mem.write s.mem ea.toNat v)
    (hne : addr ≠ ea) : t.read addr = s.read addr :=
  (State.read_congr (t := s.write ea v) hm addr).trans (s.read_write_ne v hne)

/-- BRK leaves all but its three stack bytes, and in Marker mode all of memory. -/
theorem exec_brk_keeps_read_outside {s t : State} (h : exec .brk s = .next t) {addr : Word}
    (hout : addr ∉ storedAddresses .brk s) : t.read addr = s.read addr := by
  obtain ⟨hmode, rfl⟩ | ⟨-, rfl⟩ := exec_brk_next h
  · have hsp : s.sp - 2 = s.sp - 1 - 1 := by bv_omega
    simp only [storedAddresses, Instr.mnemonic, hmode, hsp, List.mem_cons, List.not_mem_nil, or_false, not_or] at hout
    obtain ⟨hhigh, hlow, hstatus⟩ := hout
    rw [State.read_takeInterrupt, if_neg hstatus, if_neg hlow, if_neg hhigh]
  · rfl

section
variable {i : Instr} {s t : State} (h : exec i s = .next t) {addr : Word} (hout : addr ∉ storedAddresses i s)
include h hout

/-- Of the instructions without a memory operand, PHA, PHP, JSR and BRK store, each to the stack. -/
theorem exec_keeps_read_outside_of_noMemory (hc : operandClass i.mnemonic = .noMemory) : t.read addr = s.read addr := by
  cases i with
  | pha | php =>
    cases h
    exact State.read_of_mem_write rfl (List.ne_of_not_mem_cons hout)
  | jsr target =>
    cases h
    have hlow : addr ∉ [stackAddr (s.sp - 1)] := List.not_mem_of_not_mem_cons hout
    exact (Sem.read_jsr target s addr).trans
      ((if_neg (List.ne_of_not_mem_cons hlow)).trans (if_neg (List.ne_of_not_mem_cons hout)))
  | brk => exact exec_brk_keeps_read_outside h hout
  | pla | plp | rts | rti | tax | tay | tsx | txa | txs | tya | bpl | bmi | bvc | bvs | bcc | bcs | bne | beq
  | jmpAbs | jmpInd | clc | sec | cli | sei | clv | cld | sed | inx | iny | dex | dey | nop =>
    exact State.read_congr (exec_keeps_mem h rfl) addr
  | _ => cases hc

/-- Outside the addresses an instruction stores to, every byte reads as before. -/
theorem exec_keeps_read_outside : t.read addr = s.read addr := by
  cases hc : operandClass i.mnemonic with
  | read => exact State.read_congr (exec_keeps_mem h (storedAddresses_of_read hc)) addr
  | write =>
    obtain ⟨ea, hea⟩ := operandOf_of_write s hc
    rw [storedAddresses_of_write hc hea] at hout
    exact State.read_of_mem_write (exec_write_mem h hc hea) (List.ne_of_not_mem_cons hout)
  | modify =>
    obtain hacc | ⟨ea, hea⟩ := operandOf_of_modify s hc
    · exact State.read_congr (exec_keeps_mem h (storedAddresses_of_accumulator hacc)) addr
    · rw [storedAddresses_of_modify hc hea] at hout
      exact State.read_of_mem_write (exec_modify_mem h hc hea) (List.ne_of_not_mem_cons hout)
  | noMemory => exact exec_keeps_read_outside_of_noMemory h hout hc

end

/-! ### The statements of 41_load_store.md -/

/-- Settles O22: the operand value read goes to the register, and the opcode map lists the loads' opcodes. -/
theorem loadsCopyTheOperand : Obligations.LoadsCopyTheOperand := by
  refine ⟨fun i s hm => ?_, fun i s hm => ?_, fun i s hm => ?_, mnemonic_eq_iff_of_rows (by decide),
    mnemonic_eq_iff_of_rows (by decide), mnemonic_eq_iff_of_rows (by decide)⟩ <;>
  · rw [exec_of_read (by rw [hm]; rfl), hm]
    rfl

/-- Settles O23: the register goes to the effective address, and the opcode map lists the stores' opcodes. -/
theorem storesWriteTheRegister : Obligations.StoresWriteTheRegister := by
  refine ⟨fun i s hm => ?_, fun i s hm => ?_, fun i s hm => ?_, mnemonic_eq_iff_of_rows (by decide),
    mnemonic_eq_iff_of_rows (by decide), mnemonic_eq_iff_of_rows (by decide)⟩ <;>
  · rw [exec_of_write (by rw [hm]; rfl), hm]
    rfl

/-- Settles O24: a load that meets a store gives its register back, and the absolute forms at one address meet. -/
theorem storeThenLoadRoundTrips : Obligations.StoreThenLoadRoundTrips :=
  ⟨fun s _ => ⟨reloads_sta_lda.roundTrip_of_meets s nofun rfl rfl fun _ => rfl,
      reloads_stx_ldx.roundTrip_of_meets s nofun rfl rfl fun _ => rfl,
      reloads_sty_ldy.roundTrip_of_meets s nofun rfl rfl fun _ => rfl⟩,
    fun _ _ s hmode => ⟨reloads_sta_lda.roundTrip s hmode, reloads_stx_ldx.roundTrip s hmode,
      reloads_sty_ldy.roundTrip s hmode⟩⟩

/-- Settles O53: each class of instruction stores inside its listed addresses, and without any leaves memory. -/
theorem memoryChangesOnlyWhereStored : Obligations.MemoryChangesOnlyWhereStored := fun _ _ _ h =>
  ⟨fun _ hout => exec_keeps_read_outside h hout, exec_keeps_mem h⟩

end Sys2Proof.Machine

/-! SUPPORT. Register transfers (42_transfer.md R170 to R175). -/

namespace Sys2Proof.Machine

/-- An instruction that sets Z and N by `v` and ends with the default advance changes Z, N and PC alone. -/
theorem finish_setNZ (n : Nat) (s : State) (v : Byte) : finish n (s.setNZ v) =
    .next { s with flagZ := decide (v = 0x00#8), flagN := v.getLsbD 7, pc := s.pc + BitVec.ofNat 16 n } := rfl

/-! ### The statements of 42_transfer.md -/

/-- Settles O25: five transfers end with Z and N set by the byte copied, TXS without; each is its opcode byte alone. -/
theorem transfersCopyARegister : Obligations.TransfersCopyARegister := fun s =>
  ⟨finish_setNZ 1 { s with x := s.a } s.a, finish_setNZ 1 { s with y := s.a } s.a,
    finish_setNZ 1 { s with x := s.sp } s.sp, finish_setNZ 1 { s with a := s.x } s.x,
    finish_eq_next.2 rfl, finish_setNZ 1 { s with a := s.y } s.y,
    rfl, rfl, rfl, rfl, rfl, rfl⟩

end Sys2Proof.Machine

/-! SUPPORT. Logical instructions and BIT (43_logic.md R180 to R183). -/

namespace Sys2Proof.Machine

/-- An instruction that combines A with its operand by `f` and sets Z and N by the new A: AND, ORA and EOR. -/
theorem exec_of_combine {i : Instr} {m : Mnemonic} (f : Byte → Byte → Byte) (s : State) (hm : i.mnemonic = m)
    (hc : operandClass m = .read)
    (heff : ∀ v : Byte, readEffect m v s = ({ s with a := f s.a v }).setNZ (f s.a v)) :
    exec i s = .next { s with
      a := f s.a (operandValue i s), flagZ := decide (f s.a (operandValue i s) = 0x00#8),
      flagN := (f s.a (operandValue i s)).getLsbD 7, pc := s.pc + BitVec.ofNat 16 i.length } := by
  subst hm
  rw [exec_of_read hc, heff, finish_setNZ]

/-- The condition BIT puts in Z, bit by bit: two bytes have no common bit. -/
theorem and_eq_zero_iff_no_common_bit (a m : Byte) :
    a &&& m = 0x00#8 ↔ ∀ k : Nat, ¬ (a.getLsbD k = true ∧ m.getLsbD k = true) := by
  have hbit (k : Nat) : (a &&& m).getLsbD k = (0x00#8).getLsbD k ↔ ¬ (a.getLsbD k = true ∧ m.getLsbD k = true) := by
    rw [BitVec.getLsbD_and, BitVec.getLsbD_zero, Bool.eq_false_iff, ne_eq, Bool.and_eq_true]
  exact ⟨fun h k => (hbit k).1 (by rw [h]), fun h => BitVec.eq_of_getLsbD_eq fun k _ => (hbit k).2 (h k)⟩

/-! ### The statements of 43_logic.md -/

/-- Settles O26: the new A is the bitwise operation's value, and the opcode map lists the opcodes. -/
theorem logicCombinesWithA : Obligations.LogicCombinesWithA :=
  ⟨fun _ s hm => ⟨_, fun _ _ => BitVec.getLsbD_and, exec_of_combine (· &&& ·) s hm rfl fun _ => rfl⟩,
    fun _ s hm => ⟨_, fun _ _ => BitVec.getLsbD_or, exec_of_combine (· ||| ·) s hm rfl fun _ => rfl⟩,
    fun _ s hm => ⟨_, fun _ _ => BitVec.getLsbD_xor, exec_of_combine (· ^^^ ·) s hm rfl fun _ => rfl⟩,
    mnemonic_eq_iff_of_rows (by decide), mnemonic_eq_iff_of_rows (by decide), mnemonic_eq_iff_of_rows (by decide)⟩

/-- Settles O27: Z is `A & M = 0`, which says that no bit is common; N and V are read off the operand value. -/
theorem bitTestsTheOperand : Obligations.BitTestsTheOperand := by
  refine ⟨fun i s hm => ⟨decide (s.a &&& operandValue i s = 0x00#8), ?_, ?_⟩, mnemonic_eq_iff_of_rows (by decide)⟩
  · exact decide_eq_true_iff.trans (and_eq_zero_iff_no_common_bit s.a (operandValue i s))
  · rw [exec_of_read (by rw [hm]; rfl), hm]
    rfl

end Sys2Proof.Machine

/-! SUPPORT. Compare and arithmetic (44_compare_arith.md R190 to R198): Compare and AddWithCarry in numbers, SBC's
one's complement, and the instructions that use them; and that no instruction acts on D or I (R196; 60_exceptions.md
R306). -/

namespace Sys2Proof.Machine

/-! ### Bit 7, and the one's complement of a byte -/

theorem getLsbD_seven_eq_decide (v : Byte) : v.getLsbD 7 = decide (128 ≤ v.toNat) := v.msb_eq_decide

theorem and_bit_seven_ne_zero_iff (v : Byte) : v &&& 0x80#8 ≠ 0#8 ↔ v.getLsbD 7 = true := by
  rw [show 0x80#8 = BitVec.twoPow 8 7 from rfl, BitVec.and_twoPow]
  cases v.getLsbD 7 <;> decide

/-- SBC adds the one's complement of its operand (R197). -/
theorem xor_ff_eq_not (v : Byte) : v ^^^ 0xFF#8 = ~~~v := BitVec.xor_allOnes

theorem toNat_xor_ff (v : Byte) : (v ^^^ 0xFF#8).toNat = 255 - v.toNat := by rw [xor_ff_eq_not, BitVec.toNat_not]

theorem getLsbD_seven_xor_ff (v : Byte) : (v ^^^ 0xFF#8).getLsbD 7 = !v.getLsbD 7 := by
  rw [xor_ff_eq_not, BitVec.getLsbD_not]; rfl

theorem toInt_xor_ff (v : Byte) : (v ^^^ 0xFF#8).toInt = -v.toInt - 1 := by
  have hlt := v.isLt
  rw [BitVec.toInt_eq_toNat_cond, BitVec.toInt_eq_toNat_cond, toNat_xor_ff]
  split <;> split <;> omega

/-! ### Compare (R190 to R193) -/

/-- An instruction that compares `r` with `m` and ends with the default advance: C, Z and N in numbers. -/
theorem finish_compare (n : Nat) (s : State) (r m : Byte) : finish n (s.compare r m) = .next { s with
    flagC := decide (m.toNat ≤ r.toNat), flagZ := decide (r = m),
    flagN := decide (128 ≤ (r.toNat + 256 - m.toNat) % 256), pc := s.pc + BitVec.ofNat 16 n } := by
  have hz : decide (r - m = 0x00#8) = decide (r = m) := decide_eq_decide.2 sub_eq_zero
  have hn : (r - m).toNat = (r.toNat + 256 - m.toNat) % 256 := by
    have hlt := m.isLt
    rw [BitVec.toNat_sub]
    omega
  rw [← hz, ← hn, ← getLsbD_seven_eq_decide]
  rfl

/-- CMP, CPX and CPY: an instruction that compares its register with its operand value. -/
theorem exec_of_compare {i : Instr} {m : Mnemonic} (reg : State → Byte) (s : State) (hm : i.mnemonic = m)
    (hc : operandClass m = .read) (heff : ∀ v : Byte, readEffect m v s = s.compare (reg s) v) :
    exec i s = .next { s with
      flagC := decide ((operandValue i s).toNat ≤ (reg s).toNat), flagZ := decide (reg s = operandValue i s),
      flagN := decide (128 ≤ ((reg s).toNat + 256 - (operandValue i s).toNat) % 256),
      pc := s.pc + BitVec.ofNat 16 i.length } := by
  subst hm
  rw [exec_of_read hc, heff, finish_compare]

/-! ### AddWithCarry (R194) -/

/-- The overflow formula by bit 7 of each byte: equal addends' signs, and a result of the other sign. -/
theorem addOverflow_eq_true_iff (a m r : Byte) :
    addOverflow a m r = true ↔ a.getLsbD 7 = m.getLsbD 7 ∧ r.getLsbD 7 ≠ a.getLsbD 7 := by
  rw [addOverflow, decide_eq_true_iff, and_bit_seven_ne_zero_iff]
  simp [ne_comm]

theorem toNat_ofNat_sum9 (a m : Byte) (c : Bool) :
    (BitVec.ofNat 8 (sum9 a m c)).toNat = (a.toNat + m.toNat + c.toNat) % 256 := BitVec.toNat_ofNat _ _

/-- The overflow of AddWithCarry is that of the two's-complement sum (R198). -/
theorem addOverflow_sum9_eq_true_iff (a m : Byte) (c : Bool) :
    addOverflow a m (BitVec.ofNat 8 (sum9 a m c)) = true ↔
      a.toInt + m.toInt + c.toNat < -128 ∨ 127 < a.toInt + m.toInt + c.toNat := by
  have ha := a.isLt
  have hm := m.isLt
  have hc := c.toNat_lt
  rw [addOverflow_eq_true_iff, ne_eq]
  simp only [getLsbD_seven_eq_decide, toNat_ofNat_sum9, BitVec.toInt_eq_toNat_cond, decide_eq_decide]
  split <;> split <;> omega

/-! ### ADC and SBC (R195, R197) -/

theorem exec_of_adc {i : Instr} (s : State) (hm : i.mnemonic = .adc) :
    exec i s = finish i.length (s.addWithCarry (operandValue i s)) := by
  rw [exec_of_read (by rw [hm]; rfl), hm]
  rfl

theorem exec_of_sbc {i : Instr} (s : State) (hm : i.mnemonic = .sbc) :
    exec i s = finish i.length (s.addWithCarry (operandValue i s ^^^ 0xFF#8)) := by
  rw [exec_of_read (by rw [hm]; rfl), hm]
  rfl

/-- Adding the complement subtracts the operand and the borrow. -/
theorem toNat_ofNat_sum9_xor_ff (a m : Byte) (c : Bool) :
    (BitVec.ofNat 8 (sum9 a (m ^^^ 0xFF#8) c)).toNat = (a.toNat + 256 - m.toNat - (1 - c.toNat)) % 256 := by
  have hm := m.isLt
  have hc := c.toNat_lt
  rw [toNat_ofNat_sum9, toNat_xor_ff]
  omega

/-- Adding the complement carries exactly if the subtraction does not borrow. -/
theorem carry_sum9_xor_ff_iff (a m : Byte) (c : Bool) :
    255 < sum9 a (m ^^^ 0xFF#8) c ↔ m.toNat + (1 - c.toNat) ≤ a.toNat := by
  have hm := m.isLt
  have hc := c.toNat_lt
  rw [sum9, toNat_xor_ff]
  omega

/-- The overflow of a subtraction by bit 7: unequal signs, and a result whose sign is not A's. -/
theorem addOverflow_xor_ff_eq_true_iff (a m r : Byte) :
    addOverflow a (m ^^^ 0xFF#8) r = true ↔ a.getLsbD 7 ≠ m.getLsbD 7 ∧ r.getLsbD 7 ≠ a.getLsbD 7 := by
  rw [addOverflow_eq_true_iff, getLsbD_seven_xor_ff, Bool.eq_not]

/-! ### D and I (R196; 60_exceptions.md R306) -/

/-- Whatever PLA_SETS_NZ says, PLA reads neither D nor I. -/
theorem exec_pla_carries_flagD_flagI {s t : State} (h : exec .pla s = .next t) (d k : Bool) :
    exec .pla { s with flagD := d, flagI := k } = .next { t with flagD := d, flagI := k } := by
  cases h
  refine finish_eq_next.2 ?_
  unfold Sem.pla
  split <;> rfl

/-- An instruction that neither writes D or I nor pushes the status byte hands both on and is the same otherwise. -/
theorem exec_carries_flagD_flagI {i : Instr} {s t : State} (h : exec i s = .next t)
    (hw : i.mnemonic ∉ writersOfD ++ writersOfI) (hphp : i ≠ .php) (hbrk : i ≠ .brk) (d k : Bool) :
    exec i { s with flagD := d, flagI := k } = .next { t with flagD := d, flagI := k } := by
  cases i with
  | php => exact absurd rfl hphp
  | brk => exact absurd rfl hbrk
  | cld | sed | cli | sei | plp | rti => exact absurd (of_decide_eq_true rfl) hw
  | pla => exact exec_pla_carries_flagD_flagI h d k
  | _ => cases h; rfl

/-- The writers of D or I set them to a constant or pull them, and read neither. -/
theorem exec_writer_inert {i : Instr} (s : State) (hw : i.mnemonic ∈ writersOfD ++ writersOfI) (d k : Bool) :
    ∃ t u : State, exec i s = .next t ∧ exec i { s with flagD := d, flagI := k } = .next u ∧
      { u with flagD := false, flagI := false } = { t with flagD := false, flagI := false } := by
  cases i with
  | cld | sed | cli | sei | plp | rti => exact ⟨_, _, rfl, rfl, rfl⟩
  | _ => exact absurd hw (of_decide_eq_true rfl)

/-! ### The statements of 44_compare_arith.md -/

/-- Settles O28: each compares its own register, and the opcode map lists the opcodes. -/
theorem comparesSetCarryZeroNegative : Obligations.ComparesSetCarryZeroNegative :=
  ⟨fun _ s hm => exec_of_compare State.a s hm rfl fun _ => rfl,
    fun _ s hm => exec_of_compare State.x s hm rfl fun _ => rfl,
    fun _ s hm => exec_of_compare State.y s hm rfl fun _ => rfl,
    mnemonic_eq_iff_of_rows (by decide), mnemonic_eq_iff_of_rows (by decide), mnemonic_eq_iff_of_rows (by decide)⟩

/-- Settles O29: AddWithCarry of the operand value; SED and CLD store D, which ADC and SBC carry along unread. -/
theorem adcAddsWithCarry : Obligations.AdcAddsWithCarry := by
  refine ⟨fun i s hm => ?_, fun s => ⟨rfl, rfl⟩, fun i s d hm => ?_, mnemonic_eq_iff_of_rows (by decide)⟩
  · exact ⟨_, _, toNat_ofNat_sum9 s.a (operandValue i s) s.flagC, addOverflow_eq_true_iff _ _ _, exec_of_adc s hm⟩
  · have hv : operandValue i { s with flagD := d } = operandValue i s := operandValue_congr rfl rfl rfl rfl i
    obtain hm | hm := hm
    · exact ⟨_, exec_of_adc s hm, by rw [exec_of_adc _ hm, hv]; rfl⟩
    · exact ⟨_, exec_of_sbc s hm, by rw [exec_of_sbc _ hm, hv]; rfl⟩

/-- Settles O30: AddWithCarry of the operand's complement, in numbers and by bit 7. -/
theorem sbcSubtractsWithBorrow : Obligations.SbcSubtractsWithBorrow := by
  refine ⟨fun i s hm => ?_, mnemonic_eq_iff_of_rows (by decide)⟩
  exact ⟨_, _, _, toNat_ofNat_sum9_xor_ff s.a (operandValue i s) s.flagC,
    decide_eq_true_iff.trans (carry_sum9_xor_ff_iff _ _ _), decide_eq_true_iff,
    addOverflow_xor_ff_eq_true_iff _ _ _, exec_of_sbc s hm⟩

/-- Settles O31: V of AddWithCarry is the signed overflow, and the complement of M is -M - 1. -/
theorem overflowIsSignedOverflow : Obligations.OverflowIsSignedOverflow := by
  refine fun i s => ⟨fun hm => ⟨_, exec_of_adc s hm, addOverflow_sum9_eq_true_iff _ _ _⟩,
    fun hm => ⟨_, exec_of_sbc s hm, (addOverflow_sum9_eq_true_iff _ _ _).trans ?_⟩⟩
  have hsum : s.a.toInt + (operandValue i s ^^^ 0xFF#8).toInt + s.flagC.toNat =
      s.a.toInt - (operandValue i s).toInt - (1 - (s.flagC.toNat : Int)) := by
    rw [toInt_xor_ff]
    ring
  rw [hsum]

/-- Settles O54: an instruction writes D or I without reading them, or carries them along. -/
theorem decimalAndInterruptFlagsAreInert : Obligations.DecimalAndInterruptFlagsAreInert := by
  intro i s d k hphp hbrk
  by_cases hw : i.mnemonic ∈ writersOfD ++ writersOfI
  · exact exec_writer_inert s hw d k
  · obtain ⟨t, ht, -⟩ := exec_next_keeps i s
    exact ⟨t, _, ht, exec_carries_flagD_flagI ht hw hphp hbrk d k, rfl⟩

end Sys2Proof.Machine

/-! SUPPORT. JMP and RTS (45_control.md R220, R223): the state RTS leaves. -/

namespace Sys2Proof.Machine

/-- RTS changes SP and PC alone. -/
theorem exec_rts (s : State) : exec .rts s = .next { s with sp := s.sp + 1 + 1, pc := (Sem.rts s).pc } := rfl

/-- PC after RTS in numbers: the word pulled low byte first, plus 1 and modulo 65536. -/
theorem Sem.rts_pc_toNat (s : State) : (Sem.rts s).pc.toNat =
    ((s.read (stackAddr (s.sp + 1 + 1))).toNat * 256 + (s.read (stackAddr (s.sp + 1))).toNat + 1) % 65536 := by
  have hpc : (Sem.rts s).pc.toNat = (s.pullWord.1.toNat + 1) % 65536 := BitVec.toNat_add s.pullWord.1 1
  rw [hpc, State.pullWord_value, wordOf_toNat]

/-! ### The statements of 45_control.md -/

/-- Settles O33: the jump is its target in PC, and the row of 0x4C assembles its operand bytes. -/
theorem jmpAbsoluteSetsPc : Obligations.JmpAbsoluteSetsPc := fun _ b1 b2 =>
  ⟨rfl, encode_assemble (op := 0x4C#8) rfl b1 b2⟩

/-- Settles O36: RTS pulls the word at the two addresses above SP and goes one past it. -/
theorem rtsReturnsPastThePulledAddress : Obligations.RtsReturnsPastThePulledAddress := by
  refine ⟨fun s => ?_, rfl⟩
  have hsp : s.sp + 2 = s.sp + 1 + 1 := by bv_omega
  simp only [stackAddr_spelled, hsp]
  exact ⟨(Sem.rts s).pc, Sem.rts_pc_toNat s, exec_rts s⟩

end Sys2Proof.Machine

/-! SUPPORT. The stack and the status byte (46_stack.md R240, R241, R246 to R248; 20_memory.md R68): what a pull
answers after the matching push, and which state comes back. -/

namespace Sys2Proof.Machine

/-! ### The stack address in numbers -/

theorem stackAddr_eq_ofNat (sp : Byte) : stackAddr sp = BitVec.ofNat 16 (0x0100 + sp.toNat) := by
  rw [← stackAddr_toNat, BitVec.ofNat_toNat, BitVec.setWidth_eq]

theorem stackAddr_ne_stackAddr_sub_two (sp : Byte) : stackAddr sp ≠ stackAddr (sp - 1 - 1) := fun h => by
  have := stackAddr_inj.1 h
  bv_omega

/-! ### A pull after a push

Between the two, PC, A and the flags may change: a pull depends on SP and on the bytes above it alone. -/

theorem State.read_push_same (s : State) (v : Byte) : (s.push v).read (stackAddr s.sp) = v := by
  rw [State.read_push, if_pos rfl]

/-- A pull whose SP and memory are as a push left them answers the pushed byte and puts SP back. -/
theorem State.pull_of_push {s t : State} {v : Byte} (hsp : t.sp = (s.push v).sp) (hmem : t.mem = (s.push v).mem) :
    t.pull = (v, { t with sp := s.sp }) := by
  have hback : t.sp + 1 = s.sp := by rw [hsp, State.push_sp, BitVec.sub_add_cancel]
  have hread : t.read (stackAddr s.sp) = v := (State.read_congr hmem _).trans (s.read_push_same v)
  rw [State.pull, hback, hread]

/-- A 16-bit pull from two below `sp` answers the word whose bytes stand there, and leaves SP at `sp`. -/
theorem State.pullWord_of_reads {t : State} {sp : Byte} {w : Word} (hsp : t.sp = sp - 1 - 1)
    (hhigh : t.read (stackAddr sp) = hiByte w) (hlow : t.read (stackAddr (sp - 1)) = loByte w) :
    t.pullWord = (w, { t with sp := sp }) := by
  have hsp1 : t.sp + 1 = sp - 1 := by rw [hsp, BitVec.sub_add_cancel]
  have hpull : t.pullWord = (wordOf (t.read (stackAddr (t.sp + 1 + 1))) (t.read (stackAddr (t.sp + 1))),
      { t with sp := t.sp + 1 + 1 }) := rfl
  rw [hpull, hsp1, BitVec.sub_add_cancel, hhigh, hlow, wordOf_hiByte_loByte]

/-! ### The status byte (10_state.md R40; 46_stack.md R246) -/

theorem flagBit_getElem (b : Bool) (k : Nat) {j : Nat} (hj : j < 8) : (flagBit b k)[j] = (b && decide (j = k)) := by
  cases b with
  | false => exact BitVec.getElem_zero hj
  | true =>
    have hbit : flagBit true k = BitVec.twoPow 8 k := (BitVec.twoPow_eq 8 k).symm
    rw [hbit, BitVec.getElem_twoPow, Bool.true_and]

/-- Loading the status byte of `t` copies the seven flags of `t`: each bit of P is one flag. -/
theorem State.loadP_statusByte (s t : State) : s.loadP t.statusByte =
    { s with flagN := t.flagN, flagV := t.flagV, flagB := t.flagB, flagD := t.flagD, flagI := t.flagI,
             flagZ := t.flagZ, flagC := t.flagC } := by
  simp [State.loadP, State.statusByte, flagBit_getElem]

/-! ### The pairs (46_stack.md R248; 45_control.md R226; 47_flags_brk.md R261) -/

/-- PLA after PHA finds the old A and the old SP, whatever PLA_SETS_NZ says. -/
theorem Sem.pla_pha (s : State) : (Sem.pla ((Sem.pha s).advance 1)).a = s.a ∧
    (Sem.pla ((Sem.pha s).advance 1)).sp = s.sp := by
  have hpull : ((Sem.pha s).advance 1).pull = (s.a, { (Sem.pha s).advance 1 with sp := s.sp }) :=
    State.pull_of_push (s := s) rfl rfl
  rw [Sem.pla, hpull]
  split <;> exact ⟨rfl, rfl⟩

/-- PLP after PHP brings SP and the flags back: PC and memory are all that changes. -/
theorem Sem.plp_php (s : State) :
    Sem.plp ((Sem.php s).advance 1) = { s with pc := s.pc + 1, mem := (Sem.php s).mem } := by
  have hpull : ((Sem.php s).advance 1).pull = (s.statusByte, { (Sem.php s).advance 1 with sp := s.sp }) :=
    State.pull_of_push (s := s) rfl rfl
  rw [Sem.plp, hpull, State.loadP_statusByte]
  rfl

/-- RTS after JSR goes one past the pushed address; PC and memory are all that changes. -/
theorem Sem.rts_jsr (target : Word) (s : State) :
    Sem.rts (Sem.jsr target s) = { s with pc := s.pc + 2 + 1, mem := (Sem.jsr target s).mem } := by
  have hpull : (Sem.jsr target s).pullWord = (s.pc + 2, { Sem.jsr target s with sp := s.sp }) := by
    refine State.pullWord_of_reads rfl ?_ ?_
    · rw [Sem.read_jsr, if_neg (stackAddr_ne_stackAddr_sub_one s.sp), if_pos rfl]
    · rw [Sem.read_jsr, if_pos rfl]
  rw [Sem.rts, hpull]
  simp [Sem.jsr]

/-- In Interrupt mode BRK takes the interrupt with return address PC + 2. -/
theorem exec_brk_of_interrupt {s : State} (hmode : s.cfg.brkMode = .interrupt) :
    exec .brk s = .next (s.takeInterrupt (s.pc + 2)) := by
  have hexec : exec .brk s = execBrk s := rfl
  rw [hexec, execBrk, hmode]

/-- The return from an interrupt just taken pulls the status byte pushed with B = 1 and then the return address: B, PC
and memory are all that changes, I with the other flags comes back as it was. -/
theorem State.returnFromInterrupt_takeInterrupt (s : State) (ret : Word) :
    (s.takeInterrupt ret).returnFromInterrupt =
      { s with flagB := true, pc := ret, mem := (s.takeInterrupt ret).mem } := by
  have hpull : (s.takeInterrupt ret).pull =
      (({ s with flagB := true } : State).statusByte, { s.takeInterrupt ret with sp := s.sp - 1 - 1 }) :=
    State.pull_of_push (s := ({ s with flagB := true } : State).pushWord ret) rfl rfl
  have hload : (s.takeInterrupt ret).pull.2.loadP (s.takeInterrupt ret).pull.1 =
      { s.takeInterrupt ret with sp := s.sp - 1 - 1, flagI := s.flagI } := by
    rw [hpull, State.loadP_statusByte]
    simp
  have hhigh : (s.takeInterrupt ret).read (stackAddr s.sp) = hiByte ret := by
    rw [State.read_takeInterrupt, if_neg (stackAddr_ne_stackAddr_sub_two s.sp),
      if_neg (stackAddr_ne_stackAddr_sub_one s.sp), if_pos rfl]
  have hlow : (s.takeInterrupt ret).read (stackAddr (s.sp - 1)) = loByte ret := by
    rw [State.read_takeInterrupt, if_neg (stackAddr_ne_stackAddr_sub_one (s.sp - 1)), if_pos rfl]
  have hword : ({ s.takeInterrupt ret with sp := s.sp - 1 - 1, flagI := s.flagI } : State).pullWord =
      (ret, { s.takeInterrupt ret with sp := s.sp, flagI := s.flagI }) := State.pullWord_of_reads rfl hhigh hlow
  rw [State.returnFromInterrupt, hload, hword]
  simp

/-! ### The statements of 46_stack.md -/

/-- Settles O38: a push is one store and a step of SP, a pull one read and a step of SP. -/
theorem pushAndPullMoveOneByte : Obligations.PushAndPullMoveOneByte := by
  intro s v
  have hup : (s.sp + 1).toNat = (s.sp.toNat + 1) % 256 := BitVec.toNat_add s.sp 1
  refine ⟨⟨rfl, ?_, ?_, fun addr haddr => ?_⟩, rfl, hup, ?_⟩
  · rw [State.push_sp]
    bv_omega
  · rw [← stackAddr_eq_ofNat, State.read_push_same]
  · rw [State.read_push, if_neg fun h => haddr ((congrArg BitVec.toNat h).trans (stackAddr_toNat s.sp))]
  · rw [State.pull_value, stackAddr_eq_ofNat, hup]

/-- Settles O39: the stack address is 0x0100 + SP, and SP is a byte. -/
theorem stackStaysInItsPage : Obligations.StackStaysInItsPage := by
  refine ⟨fun sp => ?_, fun s v hsp => ⟨?_, ?_⟩, fun s hsp => ⟨?_, ?_⟩⟩
  · have := sp.isLt
    rw [stackAddr_toNat]
    omega
  · rw [State.push_sp, hsp]
    rfl
  · have hread := s.read_push_same v
    rwa [hsp] at hread
  · rw [State.pull_sp, hsp]
    rfl
  · rw [State.pull_value, hsp]
    rfl

/-- Settles O40: PHA is a push of A and the advance over its one byte. -/
theorem phaPushesA : Obligations.PhaPushesA := ⟨fun _ => rfl, rfl⟩

/-- Settles O44: each pair by the state its second half leaves. -/
theorem pushPullPairsRoundTrip : Obligations.PushPullPairsRoundTrip := by
  intro s
  refine ⟨⟨_, _, rfl, rfl, Sem.pla_pha s⟩, ⟨_, _, rfl, rfl, ?_, ?_⟩, fun target => ⟨_, _, rfl, rfl, ?_, ?_⟩,
    fun hmode => ⟨_, _, exec_brk_of_interrupt hmode, rfl, ?_⟩⟩
  · rw [Sem.plp_php]
    rfl
  · rw [Sem.plp_php]
    rfl
  · rw [Sem.rts_jsr]
    exact BitVec.add_assoc s.pc 2 1
  · rw [Sem.rts_jsr]
  · rw [Sem.rti, State.returnFromInterrupt_takeInterrupt]
    exact ⟨rfl, rfl, rfl, rfl, rfl, rfl, rfl, rfl, rfl⟩

end Sys2Proof.Machine

/-! SUPPORT. The indexed addressing modes (40_sequencer_addressing.md R138 to R143): the zero-page pointer in
numbers. -/

namespace Sys2Proof.Machine

theorem zext16_eq_ofNat (v : Byte) : zext16 v = BitVec.ofNat 16 v.toNat := by
  rw [← zext16_toNat, BitVec.ofNat_toNat, BitVec.setWidth_eq]

theorem toNat_add_one (v : Byte) : (v + 1).toNat = (v.toNat + 1) % 256 := BitVec.toNat_add v 1

/-- The word a zero-page pointer names: its low byte at `p`, its high byte at the next address of page 0. -/
theorem zeroPagePointer_toNat {p : Byte} {n : Nat} (hp : p.toNat = n % 256) (s : State) :
    (zeroPagePointer p s).toNat = (s.read (BitVec.ofNat 16 ((n + 1) % 256))).toNat * 256 +
      (s.read (BitVec.ofNat 16 (n % 256))).toNat := by
  have hnext : (p + 1).toNat = (n + 1) % 256 := by
    rw [toNat_add_one]
    omega
  rw [zeroPagePointer, wordOf_toNat, zext16_eq_ofNat, zext16_eq_ofNat, hnext, hp]

/-! ### The statement of 40_sequencer_addressing.md -/

/-- Settles O20: each mode's row of the resolver, with the number its address is. -/
theorem indexedModesYieldTheirAddress : Obligations.IndexedModesYieldTheirAddress := by
  intro s b1 b2
  refine ⟨⟨_, rfl, eaZeroPageX_toNat b1 s⟩, ⟨_, rfl, eaZeroPageY_toNat b1 s⟩, ⟨_, rfl, ?_⟩, ⟨_, rfl, ?_⟩,
    ⟨_, rfl, zeroPagePointer_toNat (BitVec.toNat_add b1 s.x) s⟩, ⟨_, rfl, ?_⟩⟩
  · rw [eaAbsoluteX_toNat, wordOf_toNat]
  · rw [eaAbsoluteY_toNat, wordOf_toNat]
  · have hb1 : b1.toNat = b1.toNat % 256 := (Nat.mod_eq_of_lt b1.isLt).symm
    rw [eaIndirectIndexedY, BitVec.toNat_add, zext16_toNat, zeroPagePointer_toNat hb1, ← hb1]

end Sys2Proof.Machine

/-! SUPPORT. The status byte, and what pulls it (10_state.md R37, R40; 46_stack.md R243 to R246; 45_control.md R224). -/

namespace Sys2Proof.Machine

/-! ### The status byte -/

/-- Each bit of the status byte is its flag, and bit 5, which has none, is 0. -/
theorem State.statusByte_getLsbD (s : State) :
    s.statusByte.getLsbD 7 = s.flagN ∧ s.statusByte.getLsbD 6 = s.flagV ∧ s.statusByte.getLsbD 5 = false ∧
    s.statusByte.getLsbD 4 = s.flagB ∧ s.statusByte.getLsbD 3 = s.flagD ∧ s.statusByte.getLsbD 2 = s.flagI ∧
    s.statusByte.getLsbD 1 = s.flagZ ∧ s.statusByte.getLsbD 0 = s.flagC := by
  simp [State.statusByte, flagBit_getElem]

/-- The status byte assembled from a loaded byte is that byte without bit 5. -/
theorem State.statusByte_loadP (s : State) (p : Byte) : (s.loadP p).statusByte = p &&& 0xDF#8 := by
  refine BitVec.eq_of_getElem_eq fun k hk => ?_
  match k with
  | 0 | 1 | 2 | 3 | 4 | 5 | 6 | 7 => simp [State.statusByte, flagBit_getElem]

/-! ### RTI and PLA -/

/-- RTI changes the flags, SP and PC alone: the flags by the byte above SP, PC by the word above that. -/
theorem State.returnFromInterrupt_eq (s : State) : s.returnFromInterrupt =
    { s.loadP (s.read (stackAddr (s.sp + 1))) with
      sp := s.sp + 3, pc := wordOf (s.read (stackAddr (s.sp + 3))) (s.read (stackAddr (s.sp + 2))) } := by
  have h2 : s.sp + 2 = s.sp + 1 + 1 := by bv_omega
  have h3 : s.sp + 3 = s.sp + 1 + 1 + 1 := by bv_omega
  rw [h2, h3]
  rfl

theorem Sem.pla_of_not_setsNZ {s : State} (h : s.cfg.plaSetsNZ = false) :
    Sem.pla s = { s.pull.2 with a := s.pull.1 } := by
  simp [Sem.pla, h]

theorem Sem.pla_of_setsNZ {s : State} (h : s.cfg.plaSetsNZ = true) :
    Sem.pla s = ({ s.pull.2 with a := s.pull.1 } : State).setNZ s.pull.1 := by
  simp [Sem.pla, h]

/-! ### The statements of 10_state.md, 45_control.md and 46_stack.md -/

/-- Settles O42: the bits one by one, and the two round trips. -/
theorem statusByteHoldsTheFlags : Obligations.StatusByteHoldsTheFlags := by
  intro s p
  obtain ⟨h7, h6, h5, h4, h3, h2, h1, h0⟩ := s.statusByte_getLsbD
  exact ⟨h7, h6, h5, h4, h3, h2, h1, h0, s.statusByte_loadP p, s.loadP_statusByte s⟩

/-- Settles O37: the state RTI leaves, its PC as a number and its status byte. -/
theorem rtiRestoresFlagsAndPc : Obligations.RtiRestoresFlagsAndPc := by
  intro s
  refine ⟨_, _, rfl, congrArg Host.Outcome.next s.returnFromInterrupt_eq, rfl, ?_, ?_⟩
  · exact wordOf_toNat _ _
  · exact s.statusByte_loadP _

/-- Settles O41: PLA ends with or without setting Z and N by the byte pulled. -/
theorem plaPullsA : Obligations.PlaPullsA := fun s =>
  ⟨s.pull.1, rfl, fun h => finish_eq_next.2 (by rw [Sem.pla_of_not_setsNZ h]; rfl),
    fun h => finish_eq_next.2 (by rw [Sem.pla_of_setsNZ h]; rfl)⟩

/-- Settles O43: PHP is a push of the status byte, PLP a pull into the flags, each with the advance over one byte. -/
theorem phpAndPlpMoveTheStatus : Obligations.PhpAndPlpMoveTheStatus := fun s =>
  ⟨s.pull.1, rfl, finish_eq_next.2 rfl, finish_eq_next.2 rfl⟩

end Sys2Proof.Machine

/-! SUPPORT. Conditional branches (45_control.md R210 to R218): the target in numbers, and a branch on a clear flag. -/

namespace Sys2Proof.Machine

/-- The branch target is the displaced address modulo 65536, the displacement read as two's complement. -/
theorem branchTarget_toNat (pc : Word) (d : Byte) :
    ((branchTarget pc d).toNat : Int) = ((pc.toNat : Int) + 2 + d.toInt) % 65536 := by
  have h : branchTarget pc d = BitVec.ofInt 16 ((pc.toNat : Int) + 2 + d.toInt) := by
    rw [BitVec.ofInt_add, BitVec.ofInt_add, BitVec.ofInt_natCast, BitVec.ofNat_toNat, BitVec.setWidth_eq]
    rfl
  rw [h, BitVec.toNat_ofInt]
  exact Int.toNat_of_nonneg (Int.emod_nonneg _ (by decide))

/-- A branch taken when a flag is set. -/
theorem State.branch_flag (s : State) (b : Bool) (d : Byte) :
    s.branch b d = { s with pc := if b = true then branchTarget s.pc d else s.pc + 2 } := rfl

/-- A branch taken when a flag is clear. -/
theorem State.branch_not_flag (s : State) (b : Bool) (d : Byte) :
    s.branch (!b) d = { s with pc := if b = false then branchTarget s.pc d else s.pc + 2 } := by
  cases b <;> rfl

/-! ### The statement of 45_control.md -/

/-- Settles O32: each branch is `State.branch` on its flag or on the flag's complement. -/
theorem branchesGoWhereTheirFlagSays : Obligations.BranchesGoWhereTheirFlagSays := fun d s =>
  ⟨branchTarget s.pc d, s.pc + 2, branchTarget_toNat s.pc d, BitVec.toNat_add s.pc 2,
    congrArg Host.Outcome.next (s.branch_not_flag s.flagN d), congrArg Host.Outcome.next (s.branch_flag s.flagN d),
    congrArg Host.Outcome.next (s.branch_not_flag s.flagV d), congrArg Host.Outcome.next (s.branch_flag s.flagV d),
    congrArg Host.Outcome.next (s.branch_not_flag s.flagC d), congrArg Host.Outcome.next (s.branch_flag s.flagC d),
    congrArg Host.Outcome.next (s.branch_not_flag s.flagZ d), congrArg Host.Outcome.next (s.branch_flag s.flagZ d)⟩

end Sys2Proof.Machine

/-! SUPPORT. Flag instructions and BRK (47_flags_brk.md R250 to R262; 60_exceptions.md R309): the state an interrupt
leaves. -/

namespace Sys2Proof.Machine

/-- Taking the interrupt changes B, I, SP, PC and memory alone. -/
theorem State.takeInterrupt_frame (s : State) (ret : Word) : s.takeInterrupt ret =
    { s with flagB := true, flagI := true, sp := s.sp - 3, pc := (s.takeInterrupt ret).pc,
             mem := (s.takeInterrupt ret).mem } := by
  have hsp : s.sp - 3 = s.sp - 1 - 1 - 1 := by bv_omega
  rw [hsp]
  rfl

/-- PC comes from the vector, which lies above the stack page and so is read as it was before the pushes. -/
theorem State.takeInterrupt_pc (s : State) (ret : Word) :
    (s.takeInterrupt ret).pc = wordOf (s.read 0xFFFF#16) (s.read 0xFFFE#16) := by
  rw [← s.takeInterrupt_read_above_stack ret (k := 0xFFFF#16) (by decide),
    ← s.takeInterrupt_read_above_stack ret (k := 0xFFFE#16) (by decide)]
  rfl

theorem exec_brk_of_marker {s : State} (hmode : s.cfg.brkMode = .marker) : exec .brk s = .next (s.advance 1) := by
  have hexec : exec .brk s = execBrk s := rfl
  rw [hexec, execBrk, hmode, finish]

/-! ### The statements of 47_flags_brk.md -/

/-- Settles O45: each writes its flag and advances over its one byte, which the opcode map gives. -/
theorem flagInstructionsWriteOneFlag : Obligations.FlagInstructionsWriteOneFlag := fun _ =>
  ⟨finish_eq_next.2 rfl, finish_eq_next.2 rfl, finish_eq_next.2 rfl, finish_eq_next.2 rfl, finish_eq_next.2 rfl,
    finish_eq_next.2 rfl, finish_eq_next.2 rfl, rfl, rfl, rfl, rfl, rfl, rfl, rfl⟩

/-- Settles O46: the interrupt with return address PC + 2, its frame read at the three stack addresses. -/
theorem brkTakesTheSoftwareInterrupt : Obligations.BrkTakesTheSoftwareInterrupt := by
  intro s hmode
  have hret : (s.pc + 2).toNat = (s.pc.toNat + 2) % 65536 := BitVec.toNat_add s.pc 2
  have hsp : s.sp - 2 = s.sp - 1 - 1 := by bv_omega
  simp only [stackAddr_spelled, hsp]
  refine ⟨_, exec_brk_of_interrupt hmode, s.takeInterrupt_frame _, ?_, ?_, ?_, ?_, fun addr hhigh hlow hstatus => ?_⟩
  · rw [State.takeInterrupt_pc, wordOf_toNat]
  · rw [State.read_takeInterrupt, if_neg (stackAddr_ne_stackAddr_sub_two s.sp),
      if_neg (stackAddr_ne_stackAddr_sub_one s.sp), if_pos rfl, hiByte_eq_ofNat, hret]
  · rw [State.read_takeInterrupt, if_neg (stackAddr_ne_stackAddr_sub_one (s.sp - 1)), if_pos rfl, loByte_eq_ofNat, hret,
      Nat.mod_mod_of_dvd _ (by decide)]
  · rw [State.read_takeInterrupt, if_pos rfl]
  · rw [State.read_takeInterrupt, if_neg hstatus, if_neg hlow, if_neg hhigh]

/-- Settles O47: the marker is the advance over the one opcode byte. -/
theorem brkMarkerOnlyAdvances : Obligations.BrkMarkerOnlyAdvances := fun _ hmode => exec_brk_of_marker hmode

end Sys2Proof.Machine

/-! SUPPORT. Shifts, rotates, increments and decrements (48_optional_groups.md R270 to R290): what every
read-modify-write instruction does, and the bytes the shifts make in numbers. -/

namespace Sys2Proof.Machine

/-! ### Read-modify-write instructions (R274) -/

/-- The carry out of a shift or rotate of `v`: bit 7 to the left, bit 0 to the right. -/
def carryOut : Mnemonic → Byte → Bool
  | .asl, v | .rol, v => v.getLsbD 7
  | _, v => v.getLsbD 0

/-- The flags a read-modify-write instruction sets for the byte `v`: Z and N by the byte written back, and for the
shifts C by the bit shifted out. -/
def modifyFlags (m : Mnemonic) (v : Byte) (s : State) : State :=
  match m with
  | .inc | .dec => s.setNZ (modifiedValue m v s.flagC)
  | _ => s.setCNZ (carryOut m v) (modifiedValue m v s.flagC)

theorem modifyFlags_of_shift {m : Mnemonic} (hm : m ∈ shiftMnemonics) (v : Byte) (s : State) :
    modifyFlags m v s = s.setCNZ (carryOut m v) (modifiedValue m v s.flagC) := by
  cases m with
  | asl | lsr | rol | ror => rfl
  | _ => exact absurd hm (by decide)

section
variable {i : Instr} {s : State} {ea : Word}

/-- The accumulator forms write the modified byte to A. -/
theorem exec_of_accumulator (hm : i.mode = .accumulator) : exec i s = finish i.length
    (modifyFlags i.mnemonic s.a { s with a := modifiedValue i.mnemonic s.a s.flagC }) := by
  cases i with
  | aslAcc | lsrAcc | rolAcc | rorAcc => rfl
  | _ => cases hm

/-- The memory forms write it to the effective address. -/
theorem exec_of_modify_of_address (hc : operandClass i.mnemonic = .modify) (hea : operandOf i s = .address ea) :
    exec i s = finish i.length ((modifyFlags i.mnemonic (s.read ea) s).write ea
      (modifiedValue i.mnemonic (s.read ea) s.flagC)) := by
  cases i with
  | aslZp | aslZpX | lsrZp | lsrZpX | rolZp | rolZpX | rorZp | rorZpX | incZp | incZpX | decZp | decZpX =>
    cases hea; rfl
  | aslAbs | lsrAbs | rolAbs | rorAbs | incAbs | decAbs =>
    obtain rfl := eq_eaAbsolute hea rfl (wordOf_hiByte_loByte _)
    rfl
  | aslAbsX | lsrAbsX | rolAbsX | rorAbsX | incAbsX | decAbsX =>
    obtain rfl := eq_eaAbsoluteX hea rfl (wordOf_hiByte_loByte _)
    rfl
  | aslAcc | lsrAcc | rolAcc | rorAcc => cases hea
  | _ => cases hc

/-- A read-modify-write instruction outside Accumulator mode works on the byte at its effective address. -/
theorem exec_of_modify (hc : operandClass i.mnemonic = .modify) (hmode : i.mode ≠ .accumulator) :
    exec i s = finish i.length ((modifyFlags i.mnemonic (operandValue i s) s).write (effectiveAddress i s)
      (modifiedValue i.mnemonic (operandValue i s) s.flagC)) := by
  obtain hacc | ⟨ea, hea⟩ := operandOf_of_modify s hc
  · exact absurd hacc hmode
  · rw [operandValue_of_address hea, effectiveAddress_of_address hea, exec_of_modify_of_address hc hea]

end

/-- Only the shifts have an accumulator form. -/
theorem mode_ne_accumulator {i : Instr} (hm : i.mnemonic ∉ shiftMnemonics) : i.mode ≠ .accumulator := by
  intro hacc
  cases i with
  | aslAcc | lsrAcc | rolAcc | rorAcc => exact absurd (of_decide_eq_true rfl) hm
  | _ => cases hacc

theorem operandClass_of_mem_shiftMnemonics : ∀ m ∈ shiftMnemonics, operandClass m = .modify := by decide

/-- A shift or rotate, of A or of memory: the result, C the bit shifted out, Z and N; all else stays. -/
theorem exec_of_shift {i : Instr} {m : Mnemonic} (s : State) (hi : i.mnemonic = m) (hm : m ∈ shiftMnemonics)
    {r : Byte} (hr : r = modifiedValue m (operandValue i s) s.flagC) :
    exec i s = .next (if i.mode = .accumulator then
      { s with
          a := r, flagC := carryOut m (operandValue i s), flagZ := decide (r = 0x00#8), flagN := r.getLsbD 7,
          pc := s.pc + BitVec.ofNat 16 i.length }
    else { s.write (effectiveAddress i s) r with
        flagC := carryOut m (operandValue i s), flagZ := decide (r = 0x00#8), flagN := r.getLsbD 7,
        pc := s.pc + BitVec.ofNat 16 i.length }) := by
  subst hi hr
  split
  · next hacc =>
    have hv : operandValue i s = s.a := by rw [operandValue, operandOf_accumulator hacc]
    rw [exec_of_accumulator hacc, modifyFlags_of_shift hm, hv]
    rfl
  · next hmode =>
    rw [exec_of_modify (operandClass_of_mem_shiftMnemonics _ hm) hmode, modifyFlags_of_shift hm]
    rfl

/-! ### The bytes in numbers -/

theorem aslValue_toNat (v : Byte) : (aslValue v).toNat = v.toNat * 2 % 256 := by
  rw [aslValue, BitVec.toNat_shiftLeft, Nat.shiftLeft_eq]

theorem lsrValue_toNat (v : Byte) : (lsrValue v).toNat = v.toNat / 2 := by
  rw [lsrValue, BitVec.toNat_ushiftRight, Nat.shiftRight_eq_div_pow]

/-- The carry enters at bit 0, which the shift to the left leaves free. -/
theorem rolValue_toNat (v : Byte) (c : Bool) : (rolValue v c).toNat = (v.toNat * 2 + c.toNat) % 256 := by
  have hc := c.toNat_lt
  have hcarry : (if c then 0x01#8 else 0x00#8).toNat = c.toNat := by cases c <;> rfl
  have hshift : (v <<< 1).toNat = 2 ^ 1 * (v.toNat % 128) := by
    have h := aslValue_toNat v
    rw [aslValue] at h
    omega
  rw [rolValue, BitVec.toNat_or, hcarry, hshift, ← Nat.two_pow_add_eq_or_of_lt (by omega)]
  omega

/-- The carry enters at bit 7, which the shift to the right leaves free. -/
theorem rorValue_toNat (v : Byte) (c : Bool) : (rorValue v c).toNat = v.toNat / 2 + 128 * c.toNat := by
  have hlt := v.isLt
  have hcarry : (if c then 0x80#8 else 0x00#8).toNat = 2 ^ 7 * c.toNat := by cases c <;> rfl
  have hshift : (v >>> 1).toNat = v.toNat / 2 := lsrValue_toNat v
  rw [rorValue, BitVec.toNat_or, hcarry, hshift, Nat.or_comm, ← Nat.two_pow_add_eq_or_of_lt (by omega)]
  omega

theorem toNat_sub_one (v : Byte) : (v - 1).toNat = (v.toNat + 255) % 256 := by bv_omega

/-! ### The statements of 48_optional_groups.md -/

/-- Settles O48: each is a shift with its own byte written back. -/
theorem shiftsAndRotates : Obligations.ShiftsAndRotates :=
  ⟨fun _ s hm => ⟨_, aslValue_toNat _, exec_of_shift s hm (by decide) rfl⟩,
    fun _ s hm => ⟨_, lsrValue_toNat _, exec_of_shift s hm (by decide) rfl⟩,
    fun _ s hm => ⟨_, rolValue_toNat _ s.flagC, exec_of_shift s hm (by decide) rfl⟩,
    fun _ s hm => ⟨_, rorValue_toNat _ s.flagC, exec_of_shift s hm (by decide) rfl⟩⟩

/-- Settles O49: INC and DEC have no accumulator form, so each works at its effective address. -/
theorem incDecMemory : Obligations.IncDecMemory := by
  refine ⟨fun i s hm => ⟨_, toNat_add_one (operandValue i s), ?_⟩,
    fun i s hm => ⟨_, toNat_sub_one (operandValue i s), ?_⟩⟩ <;>
  · rw [exec_of_modify (by rw [hm]; rfl) (mode_ne_accumulator (by rw [hm]; decide)), hm]
    rfl

/-- Settles O50: four registers stepped and Z and N set by the result; NOP is the advance alone. -/
theorem incDecRegistersAndNop : Obligations.IncDecRegistersAndNop := fun s =>
  ⟨⟨s.x + 1, toNat_add_one s.x, finish_setNZ 1 { s with x := s.x + 1 } _⟩,
    ⟨s.y + 1, toNat_add_one s.y, finish_setNZ 1 { s with y := s.y + 1 } _⟩,
    ⟨s.x - 1, toNat_sub_one s.x, finish_setNZ 1 { s with x := s.x - 1 } _⟩,
    ⟨s.y - 1, toNat_sub_one s.y, finish_setNZ 1 { s with y := s.y - 1 } _⟩, finish_eq_next.2 rfl⟩

end Sys2Proof.Machine

/-! SUPPORT. Reset, the fault latch and the states a core and its host can reach (70_reset_and_hazards.md R340, R344,
R348, R352; 60_exceptions.md R300 to R303). -/

namespace Sys2Proof.Machine

/-! ### Reset -/

/-- A core after reset is a core of its configuration reset. -/
theorem State.resetCore_reset (cfg : Config) :
    ({ State.reset with cfg := cfg } : State).resetCore = { State.reset with cfg := cfg } := rfl

theorem State.resetCore_statusByte (s : State) : s.resetCore.statusByte = 0x00#8 :=
  show State.reset.statusByte = 0x00#8 by decide

/-! ### Steps that fail -/

theorem State.executeOne_of_fault {s : State} {f : Fault} (h : step s = .fault f) :
    s.executeOne = (s.afterFault f, some (.fault f)) := by
  rw [State.executeOne, h]

theorem step_of_absent {s : State} (hclear : s.fault = none) (habsent : opcodeAbsent s.cfg (s.read s.pc) = true) :
    step s = .fault (.invalidOpcode (s.read s.pc) s.pc) := by
  rw [step, hclear, State.fetch_eq_none.2 habsent]

theorem step_of_latched {s : State} {r : FaultRecord} (h : s.fault = some r) :
    step s = .fault (.halted r.opcode r.pc) := by
  rw [step, h]

/-- A step has a next state or faults: no instruction is refused. -/
theorem step_next_or_fault (s : State) : (∃ t, step s = .next t) ∨ ∃ f, step s = .fault f := by
  obtain ⟨r, -, hstep⟩ | ⟨i, -, -, hstep⟩ | ⟨-, -, hstep⟩ := step_cases s
  · exact .inr ⟨_, hstep⟩
  · obtain ⟨t, ht, -⟩ := exec_next_keeps i s
    exact .inl ⟨t, hstep.trans ht⟩
  · exact .inr ⟨_, hstep⟩

theorem State.tick_succ_of_fault {s : State} {f : Fault} (h : step s = .fault f) (n : Nat) :
    State.tick (n + 1) s = (s.afterFault f, .error (.fault f)) := by
  rw [State.tick, State.executeOne_of_fault h]

/-! ### Reachable states -/

/-- Every reachable state is sound and has the configuration of its core: reset is, and every transition keeps both. -/
theorem Reachable.sound_and_cfg {cfg : Config} {s : State} (h : Reachable cfg s) : s.Sound ∧ s.cfg = cfg := by
  induction h with
  | initial => exact ⟨State.resetCore_reset cfg ▸ State.resetCore_sound _, rfl⟩
  | load s t bytes base _ hload ih =>
    obtain ⟨-, -, hkeep, -⟩ := everyTransitionKeepsTheStateSound s ih.1
    exact (hkeep t bytes base hload).imp_right (·.trans ih.2)
  | poke s addr v _ ih => exact ⟨State.write_sound addr v ih.1, ih.2⟩
  | step s t _ hstep ih => exact ⟨(step_next_keeps hstep).sound ih.1, (step_next_keeps hstep).cfg.trans ih.2⟩
  | fault s f _ hstep ih => exact ⟨State.afterFault_sound ih.1 hstep, (s.afterFault_cfg f).trans ih.2⟩
  | reset s _ ih => exact ⟨s.resetCore_sound, ih.2⟩

/-! ### The statements of 10_state.md, 60_exceptions.md and 70_reset_and_hazards.md -/

/-- Settles O16: a reachable state is sound under the configuration it keeps. -/
theorem reachableStatesAreSound : Obligations.ReachableStatesAreSound := by
  intro cfg s h
  obtain ⟨⟨hinv, hlatch⟩, rfl⟩ := h.sound_and_cfg
  exact ⟨hinv, rfl, hlatch⟩

/-- Settles O15: a step with a next state ran an instruction with the latch clear, and no instruction touches it. -/
theorem nextStateHasLatchClear : Obligations.NextStateHasLatchClear := by
  refine ⟨fun s t h => ?_, fun i s t h => ?_⟩
  · obtain ⟨hclear, -⟩ := exec_of_step_next h
    exact ⟨hclear, (step_next_keeps h).fault.trans hclear⟩
  · obtain ⟨u, hu, hkeeps⟩ := exec_next_keeps i s
    cases hu.symm.trans h
    exact hkeeps.fault

/-- Settles O8: an absent opcode is what the fetch does not find, and the latch is all the fault sets. -/
theorem invalidOpcodeIsPrecise : Obligations.InvalidOpcodeIsPrecise := fun _ hclear habsent =>
  ⟨step_of_absent hclear habsent, rfl, State.executeOne_of_fault (step_of_absent hclear habsent)⟩

/-- Settles O9: a latched core answers halted before it fetches, and is left as it is. -/
theorem latchedFaultIsSticky : Obligations.LatchedFaultIsSticky := fun s _ n h =>
  ⟨step_of_latched h, State.tick_succ_of_fault (step_of_latched h) n, s.resetCore_fault⟩

/-- Settles O11: the default core after reset is itself reset, and a reset core has the stated values; its memory lists
no byte. -/
theorem resetLeavesTheStatedValues : Obligations.ResetLeavesTheStatedValues := by
  refine fun s addr => ⟨fun t ht => ?_, s.resetCore_cfg⟩
  obtain ⟨u, rfl⟩ : ∃ u : State, t = u.resetCore := ht.elim (fun h => ⟨State.reset, h⟩) fun h => ⟨s, h⟩
  exact ⟨rfl, rfl, rfl, rfl, rfl, rfl, rfl, rfl, rfl, rfl, rfl, rfl, u.resetCore_statusByte, rfl, rfl⟩

/-- Settles O13: the state after reset is itself reset, in its configuration. -/
theorem resetMemoryIsCanonical : Obligations.ResetMemoryIsCanonical := by
  have hreset : State.reset.Sound := State.resetCore_sound State.reset
  exact ⟨hreset.1, hreset, fun s => ⟨s.resetCore_sound.1, s.resetCore_sound⟩⟩

end Sys2Proof.Machine

/-! SUPPORT. Loads and host stepping (70_reset_and_hazards.md R345 to R352): the bytes a load leaves, and where `tick`
and `run_until_break` end. -/

namespace Sys2Proof.Machine

/-! ### Loads -/

/-- What storing bytes from `addr` on leaves at every address: the byte at its distance from `addr`, or, past the last
one, what was there. -/
theorem State.read_storeBytes (bytes : List Byte) : ∀ (s : State) (addr k : Word), bytes.length ≤ 65536 →
    (s.storeBytes addr bytes).read k = (bytes[(k - addr).toNat]?).getD (s.read k) := by
  induction bytes with
  | nil => intro s addr k _; rfl
  | cons b bs ih =>
    intro s addr k hlen
    rw [List.length_cons] at hlen
    rw [State.storeBytes, ih _ _ _ (by omega)]
    by_cases hk : k = addr
    · subst hk
      have hlast : (k - (k + 1)).toNat = 65535 := by bv_omega
      rw [hlast, List.getElem?_eq_none (by omega), BitVec.sub_self]
      exact State.read_write_same s k b
    · have hnext : (k - addr).toNat = (k - (addr + 1)).toNat + 1 := by bv_omega
      rw [hnext, List.getElem?_cons_succ, State.read_write_ne s b hk]

/-- Settles O56: a load is a store of its bytes and PC at the base; each address has one distance from the base. -/
theorem loadCopiesTheProgram : Obligations.LoadCopiesTheProgram := by
  refine ⟨fun s bytes base => ⟨fun hfits => ?_, fun hlong => if_pos hlong⟩, fun _ _ => rfl, rfl⟩
  have hread (k : Word) : State.read { s.storeBytes base bytes with pc := base } k =
      (bytes[(k - base).toNat]?).getD (s.read k) := State.read_storeBytes bytes s base k (by omega)
  refine ⟨_, State.loadProgram_eq_ok.2 ⟨hfits, rfl⟩, ?_, fun k hk => ?_, fun addr hout => ?_⟩
  · rw [State.storeBytes_eq]
  · have hdist : (BitVec.ofNat 16 (base.toNat + k) - base).toNat = k := by
      have hbase := base.isLt
      rw [BitVec.toNat_sub, BitVec.toNat_ofNat]
      omega
    rw [hread, hdist, List.getElem?_eq_getElem hk, Option.getD_some]
  · have hdist : bytes.length ≤ (addr - base).toNat := by bv_omega
    rw [hread, List.getElem?_eq_none hdist, Option.getD_none]

/-! ### tick -/

/-- A run of no steps ends where it starts. -/
theorem core_run_zero_eq_next {s t : State} : Host.Core.run core 0 s = .next t ↔ s = t :=
  ⟨fun h => by cases h; rfl, fun h => h ▸ rfl⟩

/-- A step with a next state begins a run that goes on from there. -/
theorem core_run_succ_of_next {s t : State} (h : step s = .next t) (n : Nat) :
    Host.Core.run core (n + 1) s = Host.Core.run core n t := by
  rw [core_run_succ, h]

/-- A step that faults begins no run with a next state. -/
theorem core_run_succ_ne_next {s : State} {f : Fault} (h : step s = .fault f) (n : Nat) (t : State) :
    Host.Core.run core (n + 1) s ≠ .next t := by
  rw [core_run_succ, h]
  nofun

/-- After a step with a next state, `tick` counts one more than from there. -/
theorem State.tick_succ_eq_ok_iff {s t u : State} {k : Nat} (h : step s = .next t) (n : Nat) :
    State.tick (n + 1) s = (u, .ok k) ↔ ∃ j, k = j + 1 ∧ State.tick n t = (u, .ok j) := by
  rw [State.tick, State.executeOne_eq_none.2 h]
  rcases htick : State.tick n t with ⟨v, f | j⟩ <;> simp [htick, and_comm, eq_comm]

/-- It fails where it fails from there. -/
theorem State.tick_succ_eq_error_iff {s t u : State} {f : Failure} (h : step s = .next t) (n : Nat) :
    State.tick (n + 1) s = (u, .error f) ↔ State.tick n t = (u, .error f) := by
  rw [State.tick, State.executeOne_eq_none.2 h]
  rcases htick : State.tick n t with ⟨v, g | j⟩ <;> simp [htick]

/-- `tick` ends without a failure exactly where the run of as many steps does, and counts them all. -/
theorem State.tick_eq_ok_iff (n : Nat) : ∀ {s t : State} {k : Nat},
    State.tick n s = (t, .ok k) ↔ k = n ∧ Host.Core.run core n s = .next t := by
  induction n with
  | zero => intro s t k; simp [State.tick, core_run_zero_eq_next, and_comm, eq_comm]
  | succ n ih =>
    intro s t k
    obtain ⟨u, hstep⟩ | ⟨f, hstep⟩ := step_next_or_fault s
    · simp [State.tick_succ_eq_ok_iff hstep, core_run_succ_of_next hstep, ih]
    · simp [State.tick_succ_of_fault hstep, core_run_succ_ne_next hstep]

/-- Where `tick` ends in a failure, a run of fewer steps reaches the state whose `execute_one` reports it. -/
theorem State.executeOne_of_tick_eq_error (n : Nat) : ∀ {s t : State} {f : Failure}, State.tick n s = (t, .error f) →
    ∃ (k : Nat) (u : State), k < n ∧ Host.Core.run core k s = .next u ∧ u.executeOne = (t, some f) := by
  induction n with
  | zero => intro s t f h; cases h
  | succ n ih =>
    intro s t f h
    obtain ⟨u, hstep⟩ | ⟨g, hstep⟩ := step_next_or_fault s
    · obtain ⟨k, w, hk, hrun, hw⟩ := ih ((State.tick_succ_eq_error_iff hstep n).1 h)
      exact ⟨k + 1, w, Nat.succ_lt_succ hk, (core_run_succ_of_next hstep k).trans hrun, hw⟩
    · cases (State.tick_succ_of_fault hstep n).symm.trans h
      exact ⟨0, s, n.succ_pos, rfl, State.executeOne_of_fault hstep⟩

/-- Settles O57: where `tick` counts, it counts its steps; where it fails, `execute_one` does. -/
theorem tickIsRepeatedStepping : Obligations.TickIsRepeatedStepping := fun n _ _ =>
  ⟨(State.tick_eq_ok_iff n).trans (and_iff_right rfl), fun _ h => ((State.tick_eq_ok_iff n).1 h).1,
    fun _ h => State.executeOne_of_tick_eq_error n h⟩

/-! ### run_until_break -/

/-- Within `n` steps from `s`, and before any step that executes 0x00, the run stands at a state of which `P` holds. -/
def State.MeetsBeforeBreak (s : State) (n : Nat) (P : State → Prop) : Prop :=
  ∃ (k : Nat) (u : State), k < n ∧ Host.Core.run core k s = .next u ∧ s.noBreakBefore k ∧ P u

theorem State.not_meetsBeforeBreak_zero {s : State} {P : State → Prop} : ¬ s.MeetsBeforeBreak 0 P := by
  rintro ⟨k, -, hk, -⟩
  exact Nat.not_lt_zero k hk

/-- With one step more: at once, or, if the first step does not execute 0x00, from its next state on. -/
theorem State.meetsBeforeBreak_succ_of_next {s t : State} (h : step s = .next t) {n : Nat} {P : State → Prop} :
    s.MeetsBeforeBreak (n + 1) P ↔ P s ∨ s.read s.pc ≠ 0x00#8 ∧ t.MeetsBeforeBreak n P := by
  constructor
  · rintro ⟨_ | k, u, hk, hrun, hbreak, hu⟩
    · cases hrun
      exact .inl hu
    · obtain ⟨hfirst, hrest⟩ := (State.noBreakBefore_succ h k).1 hbreak
      exact .inr ⟨hfirst, k, u, by omega, (core_run_succ_of_next h k).symm.trans hrun, hrest, hu⟩
  · rintro (hs | ⟨hfirst, k, u, hk, hrun, hrest, hu⟩)
    · exact ⟨0, s, by omega, rfl, s.noBreakBefore_zero, hs⟩
    · exact ⟨k + 1, u, by omega, (core_run_succ_of_next h k).trans hrun,
        (State.noBreakBefore_succ h k).2 ⟨hfirst, hrest⟩, hu⟩

/-- Where the first step faults, the run stands nowhere else. -/
theorem State.meetsBeforeBreak_succ_of_fault {s : State} {f : Fault} (h : step s = .fault f) {n : Nat}
    {P : State → Prop} : s.MeetsBeforeBreak (n + 1) P ↔ P s := by
  constructor
  · rintro ⟨_ | k, u, -, hrun, -, hu⟩
    · cases hrun
      exact hu
    · exact absurd hrun (core_run_succ_ne_next h k u)
  · exact fun hs => ⟨0, s, by omega, rfl, s.noBreakBefore_zero, hs⟩

/-- A first step with a next state ends the run if it executed 0x00; else the run goes on from there. -/
theorem State.runUntilBreak_succ_of_next {s t : State} (h : step s = .next t) (n : Nat) :
    State.runUntilBreak (n + 1) s = if s.read s.pc = 0x00#8 then (t, .breakEnd) else State.runUntilBreak n t := by
  rw [State.runUntilBreak, State.executeOne_eq_none.2 h]

theorem State.runUntilBreak_succ_of_fault {s : State} {f : Fault} (h : step s = .fault f) (n : Nat) :
    State.runUntilBreak (n + 1) s = (s.afterFault f, .faultEnd (.fault f)) := by
  rw [State.runUntilBreak, State.executeOne_of_fault h]

/-- It ends at a break exactly if the run comes to a step that executes 0x00, that being the first. -/
theorem State.runUntilBreak_eq_breakEnd_iff (n : Nat) : ∀ {s t : State}, State.runUntilBreak n s = (t, .breakEnd) ↔
    s.MeetsBeforeBreak n fun u => u.read u.pc = 0x00#8 ∧ step u = .next t := by
  induction n with
  | zero => intro s t; simp [State.runUntilBreak, State.not_meetsBeforeBreak_zero]
  | succ n ih =>
    intro s t
    obtain ⟨u, hstep⟩ | ⟨f, hstep⟩ := step_next_or_fault s
    · rw [State.runUntilBreak_succ_of_next hstep, State.meetsBeforeBreak_succ_of_next hstep, ← ih, hstep]
      by_cases hop : s.read s.pc = 0x00#8 <;> simp [hop]
    · simp [State.runUntilBreak_succ_of_fault hstep, State.meetsBeforeBreak_succ_of_fault hstep, hstep]

/-- It ends at a failure exactly if the run comes to a step that fails, before a break. -/
theorem State.runUntilBreak_eq_faultEnd_iff (n : Nat) {f : Failure} : ∀ {s t : State},
    State.runUntilBreak n s = (t, .faultEnd f) ↔ s.MeetsBeforeBreak n fun u => u.executeOne = (t, some f) := by
  induction n with
  | zero => intro s t; simp [State.runUntilBreak, State.not_meetsBeforeBreak_zero]
  | succ n ih =>
    intro s t
    obtain ⟨u, hstep⟩ | ⟨g, hstep⟩ := step_next_or_fault s
    · rw [State.runUntilBreak_succ_of_next hstep, State.meetsBeforeBreak_succ_of_next hstep, ← ih,
        State.executeOne_eq_none.2 hstep]
      by_cases hop : s.read s.pc = 0x00#8 <;> simp [hop]
    · simp [State.runUntilBreak_succ_of_fault hstep, State.meetsBeforeBreak_succ_of_fault hstep,
        State.executeOne_of_fault hstep]

/-- It ends on its budget exactly if the whole run has next states and executes no 0x00. -/
theorem State.runUntilBreak_eq_budgetEnd_iff (n : Nat) : ∀ {s t : State}, State.runUntilBreak n s = (t, .budgetEnd) ↔
    Host.Core.run core n s = .next t ∧ s.noBreakBefore n := by
  induction n with
  | zero => intro s t; simp [State.runUntilBreak, core_run_zero_eq_next, State.noBreakBefore_zero]
  | succ n ih =>
    intro s t
    obtain ⟨u, hstep⟩ | ⟨f, hstep⟩ := step_next_or_fault s
    · rw [State.runUntilBreak_succ_of_next hstep, core_run_succ_of_next hstep, State.noBreakBefore_succ hstep,
        and_left_comm, ← ih]
      by_cases hop : s.read s.pc = 0x00#8 <;> simp [hop]
    · simp [State.runUntilBreak_succ_of_fault hstep, core_run_succ_ne_next hstep]

/-- Settles O58: each of the three ends by its own induction over the budget. -/
theorem runUntilBreakStopsAfterBrk : Obligations.RunUntilBreakStopsAfterBrk := fun n _ _ =>
  ⟨State.runUntilBreak_eq_breakEnd_iff n, State.runUntilBreak_eq_budgetEnd_iff n,
    fun _ => State.runUntilBreak_eq_faultEnd_iff n⟩

end Sys2Proof.Machine
